-- ==== Sys2Proof/Word.lean ====
section
/-!
DEFINITION. The word types of the iAPX 286 and their plainest arithmetic (00 R7, R10, R11; 20 R101):
16-bit words, 8-bit bytes, 24-bit physical addresses, little-endian halves, and sign extension.
-/

namespace Sys2Proof

/-- A 16-bit word: general registers, selectors, offsets (00 R7). -/
abbrev Word := BitVec 16

/-- An 8-bit byte, the unit of memory and of the I/O space (20 R100, R120). -/
abbrev Byte := BitVec 8

/-- A 24-bit physical address, A23-A0 (20 R100). -/
abbrev Addr := BitVec 24

/-- The low byte of a word: bits 7-0 (00 R10). -/
def Word.lo (w : Word) : Byte := w.setWidth 8

/-- The high byte of a word: bits 15-8 (00 R10). -/
def Word.hi (w : Word) : Byte := (w >>> 8).setWidth 8

/-- The word whose high byte is `h` and whose low byte is `l` (20 R101). -/
def wordOf (h l : Byte) : Word := h ++ l

/-- `sext_16` of a byte (00 R11). -/
def sext16 (b : Byte) : Word := b.signExtend 16

/-- `zext_16` of a byte (00 R11). -/
def zext16 (b : Byte) : Word := b.setWidth 16

/-- `zext_24` of a word (00 R11). -/
def zext24 (w : Word) : Addr := w.setWidth 24

end Sys2Proof
end

