-- ==== Sys2Proof/Syntax.lean ====
section
/-!
DEFINITION. The syntax of the iAPX 286: registers, memory operands and ONE constructor per row of
spec/opcode_table.json (30 R260-R291; 364 rows). The seven prefix rows and the eighteen
prefixed string rows are constructors too: they are the TOKENS of the step's decoding loop (log 10).
-/

namespace Sys2Proof

/-- The eight word registers, in the order of their codes (10 R40, 30 R266). -/
inductive Reg16 where
  | ax | cx | dx | bx | sp | bp | si | di
  deriving DecidableEq, Repr

/-- The eight byte registers, in the order of their codes (10 R41, 30 R266). -/
inductive Reg8 where
  | al | cl | dl | bl | ah | ch | dh | bh
  deriving DecidableEq, Repr

/-- The four segment registers, in the order of their codes (10 R53, 30 R267). -/
inductive SReg where
  | es | cs | ss | ds
  deriving DecidableEq, Repr

/-- The eight base/index forms of r/m, in the order of their codes (30 R272). -/
inductive MemBase where
  | bxSi | bxDi | bpSi | bpDi | si | di | bp | bx
  deriving DecidableEq, Repr

/-- The displacement of a memory operand: mod = 00, 01, 10 (30 R270). -/
inductive Disp where
  | none
  | d8 (b : Byte)
  | d16 (w : Word)
  deriving DecidableEq, Repr

/-- A ModRM memory operand (30 R269, R270): the direct address (mod 00, r/m 110) or a base with a displacement. -/
inductive MemRef where
  | direct (w : Word)
  | idx (b : MemBase) (d : Disp)
  deriving DecidableEq, Repr

/-- An r/m operand: a register (mod = 11, 30 R268) or memory. -/
inductive Rm (ρ : Type) where
  | reg (r : ρ)
  | mem (m : MemRef)
  deriving DecidableEq, Repr

/-- `eb` (00 R13). -/
abbrev Eb := Rm Reg8

/-- `ew` (00 R13). The memory-only operands `ed`, `md`, `mw`, `m` have this type too: their register form is an
encoding that raises #UD (30 R288 case 5). -/
abbrev Ew := Rm Reg16

/-- The instructions of spec/opcode_table.json, one constructor per row: first the rows with an operand, then the
rows without one, each in the table's order. An invalid row (`#UD`, `#GP(0)`) has no field: its ModRM, displacement
and immediate bytes are fetched (30 R288) and have no further effect. -/
inductive Instr where
  /-- `ADD eb,rb`, 00 /r: R381. -/
  | addEbRb (e : Eb) (r : Reg8)
  /-- `ADD ew,rw`, 01 /r: R381. -/
  | addEwRw (e : Ew) (r : Reg16)
  /-- `ADD rb,eb`, 02 /r: R381. -/
  | addRbEb (r : Reg8) (e : Eb)
  /-- `ADD rw,ew`, 03 /r: R381. -/
  | addRwEw (r : Reg16) (e : Ew)
  /-- `ADD AL,db`, 04 db: R381. -/
  | addAlDb (b : Byte)
  /-- `ADD AX,dw`, 05 dw: R381. -/
  | addAxDw (w : Word)
  /-- `ADD eb,db`, 80 /0 db: R381. -/
  | addEbDb (e : Eb) (b : Byte)
  /-- `ADD ew,dw`, 81 /0 dw: R381. -/
  | addEwDw (e : Ew) (w : Word)
  /-- `ADD ew,db`, 83 /0 db: R381. -/
  | addEwDb (e : Ew) (b : Byte)
  /-- `OR eb,rb`, 08 /r: R442. -/
  | orEbRb (e : Eb) (r : Reg8)
  /-- `OR ew,rw`, 09 /r: R442. -/
  | orEwRw (e : Ew) (r : Reg16)
  /-- `OR rb,eb`, 0A /r: R442. -/
  | orRbEb (r : Reg8) (e : Eb)
  /-- `OR rw,ew`, 0B /r: R442. -/
  | orRwEw (r : Reg16) (e : Ew)
  /-- `OR AL,db`, 0C db: R442. -/
  | orAlDb (b : Byte)
  /-- `OR AX,dw`, 0D dw: R442. -/
  | orAxDw (w : Word)
  /-- `OR eb,db`, 80 /1 db: R442. -/
  | orEbDb (e : Eb) (b : Byte)
  /-- `OR ew,dw`, 81 /1 dw: R442. -/
  | orEwDw (e : Ew) (w : Word)
  /-- `ADC eb,rb`, 10 /r: R382. -/
  | adcEbRb (e : Eb) (r : Reg8)
  /-- `ADC ew,rw`, 11 /r: R382. -/
  | adcEwRw (e : Ew) (r : Reg16)
  /-- `ADC rb,eb`, 12 /r: R382. -/
  | adcRbEb (r : Reg8) (e : Eb)
  /-- `ADC rw,ew`, 13 /r: R382. -/
  | adcRwEw (r : Reg16) (e : Ew)
  /-- `ADC AL,db`, 14 db: R382. -/
  | adcAlDb (b : Byte)
  /-- `ADC AX,dw`, 15 dw: R382. -/
  | adcAxDw (w : Word)
  /-- `ADC eb,db`, 80 /2 db: R382. -/
  | adcEbDb (e : Eb) (b : Byte)
  /-- `ADC ew,dw`, 81 /2 dw: R382. -/
  | adcEwDw (e : Ew) (w : Word)
  /-- `ADC ew,db`, 83 /2 db: R382. -/
  | adcEwDb (e : Ew) (b : Byte)
  /-- `SBB eb,rb`, 18 /r: R384. -/
  | sbbEbRb (e : Eb) (r : Reg8)
  /-- `SBB ew,rw`, 19 /r: R384. -/
  | sbbEwRw (e : Ew) (r : Reg16)
  /-- `SBB rb,eb`, 1A /r: R384. -/
  | sbbRbEb (r : Reg8) (e : Eb)
  /-- `SBB rw,ew`, 1B /r: R384. -/
  | sbbRwEw (r : Reg16) (e : Ew)
  /-- `SBB AL,db`, 1C db: R384. -/
  | sbbAlDb (b : Byte)
  /-- `SBB AX,dw`, 1D dw: R384. -/
  | sbbAxDw (w : Word)
  /-- `SBB eb,db`, 80 /3 db: R384. -/
  | sbbEbDb (e : Eb) (b : Byte)
  /-- `SBB ew,dw`, 81 /3 dw: R384. -/
  | sbbEwDw (e : Ew) (w : Word)
  /-- `SBB ew,db`, 83 /3 db: R384. -/
  | sbbEwDb (e : Ew) (b : Byte)
  /-- `AND eb,rb`, 20 /r: R441. -/
  | andEbRb (e : Eb) (r : Reg8)
  /-- `AND ew,rw`, 21 /r: R441. -/
  | andEwRw (e : Ew) (r : Reg16)
  /-- `AND rb,eb`, 22 /r: R441. -/
  | andRbEb (r : Reg8) (e : Eb)
  /-- `AND rw,ew`, 23 /r: R441. -/
  | andRwEw (r : Reg16) (e : Ew)
  /-- `AND AL,db`, 24 db: R441. -/
  | andAlDb (b : Byte)
  /-- `AND AX,dw`, 25 dw: R441. -/
  | andAxDw (w : Word)
  /-- `AND eb,db`, 80 /4 db: R441. -/
  | andEbDb (e : Eb) (b : Byte)
  /-- `AND ew,dw`, 81 /4 dw: R441. -/
  | andEwDw (e : Ew) (w : Word)
  /-- `SUB eb,rb`, 28 /r: R383. -/
  | subEbRb (e : Eb) (r : Reg8)
  /-- `SUB ew,rw`, 29 /r: R383. -/
  | subEwRw (e : Ew) (r : Reg16)
  /-- `SUB rb,eb`, 2A /r: R383. -/
  | subRbEb (r : Reg8) (e : Eb)
  /-- `SUB rw,ew`, 2B /r: R383. -/
  | subRwEw (r : Reg16) (e : Ew)
  /-- `SUB AL,db`, 2C db: R383. -/
  | subAlDb (b : Byte)
  /-- `SUB AX,dw`, 2D dw: R383. -/
  | subAxDw (w : Word)
  /-- `SUB eb,db`, 80 /5 db: R383. -/
  | subEbDb (e : Eb) (b : Byte)
  /-- `SUB ew,dw`, 81 /5 dw: R383. -/
  | subEwDw (e : Ew) (w : Word)
  /-- `SUB ew,db`, 83 /5 db: R383. -/
  | subEwDb (e : Ew) (b : Byte)
  /-- `XOR eb,rb`, 30 /r: R443. -/
  | xorEbRb (e : Eb) (r : Reg8)
  /-- `XOR ew,rw`, 31 /r: R443. -/
  | xorEwRw (e : Ew) (r : Reg16)
  /-- `XOR rb,eb`, 32 /r: R443. -/
  | xorRbEb (r : Reg8) (e : Eb)
  /-- `XOR rw,ew`, 33 /r: R443. -/
  | xorRwEw (r : Reg16) (e : Ew)
  /-- `XOR AL,db`, 34 db: R443. -/
  | xorAlDb (b : Byte)
  /-- `XOR AX,dw`, 35 dw: R443. -/
  | xorAxDw (w : Word)
  /-- `XOR eb,db`, 80 /6 db: R443. -/
  | xorEbDb (e : Eb) (b : Byte)
  /-- `XOR ew,dw`, 81 /6 dw: R443. -/
  | xorEwDw (e : Ew) (w : Word)
  /-- `CMP eb,rb`, 38 /r: R385. -/
  | cmpEbRb (e : Eb) (r : Reg8)
  /-- `CMP ew,rw`, 39 /r: R385. -/
  | cmpEwRw (e : Ew) (r : Reg16)
  /-- `CMP rb,eb`, 3A /r: R385. -/
  | cmpRbEb (r : Reg8) (e : Eb)
  /-- `CMP rw,ew`, 3B /r: R385. -/
  | cmpRwEw (r : Reg16) (e : Ew)
  /-- `CMP AL,db`, 3C db: R385. -/
  | cmpAlDb (b : Byte)
  /-- `CMP AX,dw`, 3D dw: R385. -/
  | cmpAxDw (w : Word)
  /-- `CMP eb,db`, 80 /7 db: R385. -/
  | cmpEbDb (e : Eb) (b : Byte)
  /-- `CMP ew,dw`, 81 /7 dw: R385. -/
  | cmpEwDw (e : Ew) (w : Word)
  /-- `CMP ew,db`, 83 /7 db: R385. -/
  | cmpEwDb (e : Ew) (b : Byte)
  /-- `#UD`, 0F: R288. -/
  | ud0F (b : Byte)
  /-- `INC rw`, 40+rw: R386. -/
  | incRw (r : Reg16)
  /-- `DEC rw`, 48+rw: R387. -/
  | decRw (r : Reg16)
  /-- `PUSH rw`, 50+rw: R330. -/
  | pushRw (r : Reg16)
  /-- `POP rw`, 58+rw: R334. -/
  | popRw (r : Reg16)
  /-- `BOUND rw,md`, 62 /r: R622. -/
  | boundRwMd (r : Reg16) (e : Ew)
  /-- `ARPL ew,rw`, 63 /r: R740. -/
  | arplEwRw (e : Ew) (r : Reg16)
  /-- `PUSH dw`, 68 dw: R331. -/
  | pushDw (w : Word)
  /-- `IMUL rw,ew,dw`, 69 /r dw: R392. -/
  | imulRwEwDw (r : Reg16) (e : Ew) (w : Word)
  /-- `PUSH db`, 6A db: R331. -/
  | pushDb (b : Byte)
  /-- `IMUL rw,ew,db`, 6B /r db: R392. -/
  | imulRwEwDb (r : Reg16) (e : Ew) (b : Byte)
  /-- `JO cb`, 70 cb: R520. -/
  | joCb (b : Byte)
  /-- `JNO cb`, 71 cb: R520. -/
  | jnoCb (b : Byte)
  /-- `JB cb`, 72 cb: R520. -/
  | jbCb (b : Byte)
  /-- `JAE cb`, 73 cb: R520. -/
  | jaeCb (b : Byte)
  /-- `JE cb`, 74 cb: R520. -/
  | jeCb (b : Byte)
  /-- `JNE cb`, 75 cb: R520. -/
  | jneCb (b : Byte)
  /-- `JBE cb`, 76 cb: R520. -/
  | jbeCb (b : Byte)
  /-- `JA cb`, 77 cb: R520. -/
  | jaCb (b : Byte)
  /-- `JS cb`, 78 cb: R520. -/
  | jsCb (b : Byte)
  /-- `JNS cb`, 79 cb: R520. -/
  | jnsCb (b : Byte)
  /-- `JP cb`, 7A cb: R520. -/
  | jpCb (b : Byte)
  /-- `JNP cb`, 7B cb: R520. -/
  | jnpCb (b : Byte)
  /-- `JL cb`, 7C cb: R520. -/
  | jlCb (b : Byte)
  /-- `JGE cb`, 7D cb: R520. -/
  | jgeCb (b : Byte)
  /-- `JLE cb`, 7E cb: R520. -/
  | jleCb (b : Byte)
  /-- `JG cb`, 7F cb: R520. -/
  | jgCb (b : Byte)
  /-- `TEST eb,rb`, 84 /r: R444. -/
  | testEbRb (e : Eb) (r : Reg8)
  /-- `TEST ew,rw`, 85 /r: R444. -/
  | testEwRw (e : Ew) (r : Reg16)
  /-- `XCHG eb,rb`, 86 /r: R340. -/
  | xchgEbRb (e : Eb) (r : Reg8)
  /-- `XCHG ew,rw`, 87 /r: R340. -/
  | xchgEwRw (e : Ew) (r : Reg16)
  /-- `MOV eb,rb`, 88 /r: R320. -/
  | movEbRb (e : Eb) (r : Reg8)
  /-- `MOV ew,rw`, 89 /r: R320. -/
  | movEwRw (e : Ew) (r : Reg16)
  /-- `MOV rb,eb`, 8A /r: R320. -/
  | movRbEb (r : Reg8) (e : Eb)
  /-- `MOV rw,ew`, 8B /r: R320. -/
  | movRwEw (r : Reg16) (e : Ew)
  /-- `MOV ew,ES`, 8C /0: R324. -/
  | movEwEs (e : Ew)
  /-- `MOV ew,CS`, 8C /1: R324. -/
  | movEwCs (e : Ew)
  /-- `MOV ew,SS`, 8C /2: R324. -/
  | movEwSs (e : Ew)
  /-- `MOV ew,DS`, 8C /3: R324. -/
  | movEwDs (e : Ew)
  /-- `LEA rw,m`, 8D /r: R350. -/
  | leaRwM (r : Reg16) (e : Ew)
  /-- `MOV ES,ew`, 8E /0: R325. -/
  | movEsEw (e : Ew)
  /-- `MOV SS,ew`, 8E /2: R325. -/
  | movSsEw (e : Ew)
  /-- `MOV DS,ew`, 8E /3: R325. -/
  | movDsEw (e : Ew)
  /-- `POP mw`, 8F /0: R335. -/
  | popMw (e : Ew)
  /-- `XCHG AX,rw`, 90+rw: R341. -/
  | xchgAxRw (r : Reg16)
  /-- `CALL cd`, 9A cd: R532. -/
  | callCd (off : Word) (sel : Word)
  /-- `MOV AL,xb`, A0 dw: R323. -/
  | movAlXb (o : Word)
  /-- `MOV AX,xw`, A1 dw: R323. -/
  | movAxXw (o : Word)
  /-- `MOV xb,AL`, A2 dw: R323. -/
  | movXbAl (o : Word)
  /-- `MOV xw,AX`, A3 dw: R323. -/
  | movXwAx (o : Word)
  /-- `TEST AL,db`, A8 db: R444. -/
  | testAlDb (b : Byte)
  /-- `TEST AX,dw`, A9 dw: R444. -/
  | testAxDw (w : Word)
  /-- `MOV rb,db`, B0+rb db: R322. -/
  | movRbDb (r : Reg8) (b : Byte)
  /-- `MOV rw,dw`, B8+rw dw: R322. -/
  | movRwDw (r : Reg16) (w : Word)
  /-- `ROL eb,db`, C0 /0 db: R450. -/
  | rolEbDb (e : Eb) (b : Byte)
  /-- `ROR eb,db`, C0 /1 db: R451. -/
  | rorEbDb (e : Eb) (b : Byte)
  /-- `RCL eb,db`, C0 /2 db: R452. -/
  | rclEbDb (e : Eb) (b : Byte)
  /-- `RCR eb,db`, C0 /3 db: R453. -/
  | rcrEbDb (e : Eb) (b : Byte)
  /-- `SAL eb,db`, C0 /4 db: R454. -/
  | salEbDb (e : Eb) (b : Byte)
  /-- `SHR eb,db`, C0 /5 db: R455. -/
  | shrEbDb (e : Eb) (b : Byte)
  /-- `SAR eb,db`, C0 /7 db: R456. -/
  | sarEbDb (e : Eb) (b : Byte)
  /-- `ROL ew,db`, C1 /0 db: R450. -/
  | rolEwDb (e : Ew) (b : Byte)
  /-- `ROR ew,db`, C1 /1 db: R451. -/
  | rorEwDb (e : Ew) (b : Byte)
  /-- `RCL ew,db`, C1 /2 db: R452. -/
  | rclEwDb (e : Ew) (b : Byte)
  /-- `RCR ew,db`, C1 /3 db: R453. -/
  | rcrEwDb (e : Ew) (b : Byte)
  /-- `SAL ew,db`, C1 /4 db: R454. -/
  | salEwDb (e : Ew) (b : Byte)
  /-- `SHR ew,db`, C1 /5 db: R455. -/
  | shrEwDb (e : Ew) (b : Byte)
  /-- `SAR ew,db`, C1 /7 db: R456. -/
  | sarEwDb (e : Ew) (b : Byte)
  /-- `ROL eb,1`, D0 /0: R450. -/
  | rolEb1 (e : Eb)
  /-- `ROR eb,1`, D0 /1: R451. -/
  | rorEb1 (e : Eb)
  /-- `RCL eb,1`, D0 /2: R452. -/
  | rclEb1 (e : Eb)
  /-- `RCR eb,1`, D0 /3: R453. -/
  | rcrEb1 (e : Eb)
  /-- `SAL eb,1`, D0 /4: R454. -/
  | salEb1 (e : Eb)
  /-- `SHR eb,1`, D0 /5: R455. -/
  | shrEb1 (e : Eb)
  /-- `SAR eb,1`, D0 /7: R456. -/
  | sarEb1 (e : Eb)
  /-- `ROL ew,1`, D1 /0: R450. -/
  | rolEw1 (e : Ew)
  /-- `ROR ew,1`, D1 /1: R451. -/
  | rorEw1 (e : Ew)
  /-- `RCL ew,1`, D1 /2: R452. -/
  | rclEw1 (e : Ew)
  /-- `RCR ew,1`, D1 /3: R453. -/
  | rcrEw1 (e : Ew)
  /-- `SAL ew,1`, D1 /4: R454. -/
  | salEw1 (e : Ew)
  /-- `SHR ew,1`, D1 /5: R455. -/
  | shrEw1 (e : Ew)
  /-- `SAR ew,1`, D1 /7: R456. -/
  | sarEw1 (e : Ew)
  /-- `ROL eb,CL`, D2 /0: R450. -/
  | rolEbCl (e : Eb)
  /-- `ROR eb,CL`, D2 /1: R451. -/
  | rorEbCl (e : Eb)
  /-- `RCL eb,CL`, D2 /2: R452. -/
  | rclEbCl (e : Eb)
  /-- `RCR eb,CL`, D2 /3: R453. -/
  | rcrEbCl (e : Eb)
  /-- `SAL eb,CL`, D2 /4: R454. -/
  | salEbCl (e : Eb)
  /-- `SHR eb,CL`, D2 /5: R455. -/
  | shrEbCl (e : Eb)
  /-- `SAR eb,CL`, D2 /7: R456. -/
  | sarEbCl (e : Eb)
  /-- `ROL ew,CL`, D3 /0: R450. -/
  | rolEwCl (e : Ew)
  /-- `ROR ew,CL`, D3 /1: R451. -/
  | rorEwCl (e : Ew)
  /-- `RCL ew,CL`, D3 /2: R452. -/
  | rclEwCl (e : Ew)
  /-- `RCR ew,CL`, D3 /3: R453. -/
  | rcrEwCl (e : Ew)
  /-- `SAL ew,CL`, D3 /4: R454. -/
  | salEwCl (e : Ew)
  /-- `SHR ew,CL`, D3 /5: R455. -/
  | shrEwCl (e : Ew)
  /-- `SAR ew,CL`, D3 /7: R456. -/
  | sarEwCl (e : Ew)
  /-- `RET dw`, C2 dw: R540. -/
  | retNearDw (w : Word)
  /-- `LES rw,ed`, C4 /r: R352. -/
  | lesRwEd (r : Reg16) (e : Ew)
  /-- `LDS rw,ed`, C5 /r: R352. -/
  | ldsRwEd (r : Reg16) (e : Ew)
  /-- `MOV eb,db`, C6 /0 db: R321. -/
  | movEbDb (e : Eb) (b : Byte)
  /-- `MOV ew,dw`, C7 /0 dw: R321. -/
  | movEwDw (e : Ew) (w : Word)
  /-- `ENTER dw,db`, C8 dw db: R624. -/
  | enterDwDb (w : Word) (b : Byte)
  /-- `RET dw`, CA dw: R542. -/
  | retFarDw (w : Word)
  /-- `INT db`, CD db: R551. -/
  | intDb (b : Byte)
  /-- `ESC TTT LLL, e`, D8+rw /r: R596. -/
  | esc (op : BitVec 6) (e : Ew)
  /-- `LOOPNE cb`, E0 cb: R524. -/
  | loopneCb (b : Byte)
  /-- `LOOPE cb`, E1 cb: R525. -/
  | loopeCb (b : Byte)
  /-- `LOOP cb`, E2 cb: R523. -/
  | loopCb (b : Byte)
  /-- `JCXZ cb`, E3 cb: R522. -/
  | jcxzCb (b : Byte)
  /-- `IN AL,db`, E4 db: R611. -/
  | inAlDb (b : Byte)
  /-- `IN AX,db`, E5 db: R611. -/
  | inAxDb (b : Byte)
  /-- `OUT db,AL`, E6 db: R612. -/
  | outDbAl (b : Byte)
  /-- `OUT db,AX`, E7 db: R612. -/
  | outDbAx (b : Byte)
  /-- `CALL cw`, E8 cw: R530. -/
  | callCw (w : Word)
  /-- `JMP cw`, E9 cw: R511. -/
  | jmpCw (w : Word)
  /-- `JMP cd`, EA cd: R513. -/
  | jmpCd (off : Word) (sel : Word)
  /-- `JMP cb`, EB cb: R510. -/
  | jmpCb (b : Byte)
  /-- `TEST eb,db`, F6 /0 db: R444. -/
  | testEbDb (e : Eb) (b : Byte)
  /-- `NOT eb`, F6 /2: R445. -/
  | notEb (e : Eb)
  /-- `NEG eb`, F6 /3: R388. -/
  | negEb (e : Eb)
  /-- `MUL eb`, F6 /4: R390. -/
  | mulEb (e : Eb)
  /-- `IMUL eb`, F6 /5: R391. -/
  | imulEb (e : Eb)
  /-- `DIV eb`, F6 /6: R393. -/
  | divEb (e : Eb)
  /-- `IDIV eb`, F6 /7: R394. -/
  | idivEb (e : Eb)
  /-- `TEST ew,dw`, F7 /0 dw: R444. -/
  | testEwDw (e : Ew) (w : Word)
  /-- `NOT ew`, F7 /2: R445. -/
  | notEw (e : Ew)
  /-- `NEG ew`, F7 /3: R388. -/
  | negEw (e : Ew)
  /-- `MUL ew`, F7 /4: R390. -/
  | mulEw (e : Ew)
  /-- `IMUL ew`, F7 /5: R391. -/
  | imulEw (e : Ew)
  /-- `DIV ew`, F7 /6: R393. -/
  | divEw (e : Ew)
  /-- `IDIV ew`, F7 /7: R394. -/
  | idivEw (e : Ew)
  /-- `INC eb`, FE /0: R386. -/
  | incEb (e : Eb)
  /-- `DEC eb`, FE /1: R387. -/
  | decEb (e : Eb)
  /-- `INC ew`, FF /0: R386. -/
  | incEw (e : Ew)
  /-- `DEC ew`, FF /1: R387. -/
  | decEw (e : Ew)
  /-- `CALL ew`, FF /2: R531. -/
  | callEw (e : Ew)
  /-- `CALL ed`, FF /3: R533. -/
  | callEd (e : Ew)
  /-- `JMP ew`, FF /4: R512. -/
  | jmpEw (e : Ew)
  /-- `JMP md`, FF /5: R514. -/
  | jmpMd (e : Ew)
  /-- `PUSH mw`, FF /6: R330. -/
  | pushMw (e : Ew)
  /-- `SLDT ew`, 0F 00 /0: R730. -/
  | sldtEw (e : Ew)
  /-- `STR ew`, 0F 00 /1: R731. -/
  | strEw (e : Ew)
  /-- `LLDT ew`, 0F 00 /2: R732. -/
  | lldtEw (e : Ew)
  /-- `LTR ew`, 0F 00 /3: R733. -/
  | ltrEw (e : Ew)
  /-- `VERR ew`, 0F 00 /4: R734. -/
  | verrEw (e : Ew)
  /-- `VERW ew`, 0F 00 /5: R735. -/
  | verwEw (e : Ew)
  /-- `SGDT m`, 0F 01 /0: R722. -/
  | sgdtM (e : Ew)
  /-- `SIDT m`, 0F 01 /1: R723. -/
  | sidtM (e : Ew)
  /-- `LGDT m`, 0F 01 /2: R724. -/
  | lgdtM (e : Ew)
  /-- `LIDT m`, 0F 01 /3: R725. -/
  | lidtM (e : Ew)
  /-- `SMSW ew`, 0F 01 /4: R726. -/
  | smswEw (e : Ew)
  /-- `LMSW ew`, 0F 01 /6: R727. -/
  | lmswEw (e : Ew)
  /-- `LAR rw,ew`, 0F 02 /r: R736. -/
  | larRwEw (r : Reg16) (e : Ew)
  /-- `LSL rw,ew`, 0F 03 /r: R737. -/
  | lslRwEw (r : Reg16) (e : Ew)
  /-- `#UD`, 83 /1 db: R288. -/
  | ud83_1
  /-- `#UD`, 83 /4 db: R288. -/
  | ud83_4
  /-- `#UD`, 83 /6 db: R288. -/
  | ud83_6
  /-- `DAA`, 27: R400. -/
  | daa
  /-- `DAS`, 2F: R401. -/
  | das
  /-- `AAA`, 37: R402. -/
  | aaa
  /-- `AAS`, 3F: R403. -/
  | aas
  /-- `AAM`, D4 0A: R404. -/
  | aam
  /-- `AAD`, D5 0A: R405. -/
  | aad
  /-- `PUSH ES`, 06: R330. -/
  | pushEs
  /-- `PUSH CS`, 0E: R330. -/
  | pushCs
  /-- `PUSH SS`, 16: R330. -/
  | pushSs
  /-- `PUSH DS`, 1E: R330. -/
  | pushDs
  /-- `POP ES`, 07: R334. -/
  | popEs
  /-- `POP SS`, 17: R334. -/
  | popSs
  /-- `POP DS`, 1F: R334. -/
  | popDs
  /-- `SEG ES:`, 26: R275. -/
  | segEs
  /-- `SEG CS:`, 2E: R275. -/
  | segCs
  /-- `SEG SS:`, 36: R275. -/
  | segSs
  /-- `SEG DS:`, 3E: R275. -/
  | segDs
  /-- `LOCK`, F0: R592. -/
  | lock
  /-- `REPNE`, F2: R493. -/
  | repne
  /-- `REP`, F3: R493. -/
  | rep
  /-- `PUSHA`, 60: R620. -/
  | pusha
  /-- `POPA`, 61: R621. -/
  | popa
  /-- `#UD`, 64: R288. -/
  | ud64
  /-- `#UD`, 65: R288. -/
  | ud65
  /-- `#UD`, 66: R288. -/
  | ud66
  /-- `#UD`, 67: R288. -/
  | ud67
  /-- `INSB`, 6C: R614. -/
  | insb
  /-- `INSW`, 6D: R614. -/
  | insw
  /-- `OUTSB`, 6E: R615. -/
  | outsb
  /-- `OUTSW`, 6F: R615. -/
  | outsw
  /-- `#UD`, 82: R288. -/
  | ud82
  /-- `#UD`, 8C /4: R288. -/
  | ud8C_4
  /-- `#UD`, 8C /5: R288. -/
  | ud8C_5
  /-- `#UD`, 8C /6: R288. -/
  | ud8C_6
  /-- `#UD`, 8C /7: R288. -/
  | ud8C_7
  /-- `#UD`, 8E /1: R288. -/
  | ud8E_1
  /-- `#UD`, 8E /4: R288. -/
  | ud8E_4
  /-- `#UD`, 8E /5: R288. -/
  | ud8E_5
  /-- `#UD`, 8E /6: R288. -/
  | ud8E_6
  /-- `#UD`, 8E /7: R288. -/
  | ud8E_7
  /-- `#GP(0)`, 8F /1: R288. -/
  | gp8F_1
  /-- `#GP(0)`, 8F /2: R288. -/
  | gp8F_2
  /-- `#GP(0)`, 8F /3: R288. -/
  | gp8F_3
  /-- `#GP(0)`, 8F /4: R288. -/
  | gp8F_4
  /-- `#GP(0)`, 8F /5: R288. -/
  | gp8F_5
  /-- `#GP(0)`, 8F /6: R288. -/
  | gp8F_6
  /-- `#GP(0)`, 8F /7: R288. -/
  | gp8F_7
  /-- `NOP`, 90: R590. -/
  | nop
  /-- `CBW`, 98: R396. -/
  | cbw
  /-- `CWD`, 99: R397. -/
  | cwd
  /-- `WAIT`, 9B: R594. -/
  | wait
  /-- `PUSHF`, 9C: R580. -/
  | pushf
  /-- `POPF`, 9D: R581. -/
  | popf
  /-- `SAHF`, 9E: R578. -/
  | sahf
  /-- `LAHF`, 9F: R579. -/
  | lahf
  /-- `MOVSB`, A4: R482. -/
  | movsb
  /-- `MOVSW`, A5: R482. -/
  | movsw
  /-- `CMPSB`, A6: R483. -/
  | cmpsb
  /-- `CMPSW`, A7: R483. -/
  | cmpsw
  /-- `STOSB`, AA: R486. -/
  | stosb
  /-- `STOSW`, AB: R486. -/
  | stosw
  /-- `LODSB`, AC: R485. -/
  | lodsb
  /-- `LODSW`, AD: R485. -/
  | lodsw
  /-- `SCASB`, AE: R484. -/
  | scasb
  /-- `SCASW`, AF: R484. -/
  | scasw
  /-- `#UD`, C0 /6 db: R288. -/
  | udC0_6
  /-- `#UD`, C1 /6 db: R288. -/
  | udC1_6
  /-- `#UD`, D0 /6: R288. -/
  | udD0_6
  /-- `#UD`, D1 /6: R288. -/
  | udD1_6
  /-- `#UD`, D2 /6: R288. -/
  | udD2_6
  /-- `#UD`, D3 /6: R288. -/
  | udD3_6
  /-- `RET`, C3: R540. -/
  | retNear
  /-- `#UD`, C6 /1: R288. -/
  | udC6_1
  /-- `#UD`, C6 /2: R288. -/
  | udC6_2
  /-- `#UD`, C6 /3: R288. -/
  | udC6_3
  /-- `#UD`, C6 /4: R288. -/
  | udC6_4
  /-- `#UD`, C6 /5: R288. -/
  | udC6_5
  /-- `#UD`, C6 /6: R288. -/
  | udC6_6
  /-- `#UD`, C6 /7: R288. -/
  | udC6_7
  /-- `#UD`, C7 /1: R288. -/
  | udC7_1
  /-- `#UD`, C7 /2: R288. -/
  | udC7_2
  /-- `#UD`, C7 /3: R288. -/
  | udC7_3
  /-- `#UD`, C7 /4: R288. -/
  | udC7_4
  /-- `#UD`, C7 /5: R288. -/
  | udC7_5
  /-- `#UD`, C7 /6: R288. -/
  | udC7_6
  /-- `#UD`, C7 /7: R288. -/
  | udC7_7
  /-- `LEAVE`, C9: R625. -/
  | leave
  /-- `RET`, CB: R542. -/
  | retFar
  /-- `INT 3`, CC: R550. -/
  | int3
  /-- `INTO`, CE: R552. -/
  | into
  /-- `IRET`, CF: R555. -/
  | iret
  /-- `#UD`, D6: R288. -/
  | udD6
  /-- `XLATB`, D7: R345. -/
  | xlatb
  /-- `IN AL,DX`, EC: R611. -/
  | inAlDx
  /-- `IN AX,DX`, ED: R611. -/
  | inAxDx
  /-- `OUT DX,AL`, EE: R612. -/
  | outDxAl
  /-- `OUT DX,AX`, EF: R612. -/
  | outDxAx
  /-- `#UD`, F1: R288. -/
  | udF1
  /-- `HLT`, F4: R591. -/
  | hlt
  /-- `CMC`, F5: R572. -/
  | cmc
  /-- `#UD`, F6 /1: R288. -/
  | udF6_1
  /-- `#UD`, F7 /1: R288. -/
  | udF7_1
  /-- `CLC`, F8: R570. -/
  | clc
  /-- `STC`, F9: R571. -/
  | stc
  /-- `CLI`, FA: R575. -/
  | cli
  /-- `STI`, FB: R576. -/
  | sti
  /-- `CLD`, FC: R573. -/
  | cld
  /-- `STD`, FD: R574. -/
  | std
  /-- `#UD`, FE /2: R288. -/
  | udFE_2
  /-- `#UD`, FE /3: R288. -/
  | udFE_3
  /-- `#UD`, FE /4: R288. -/
  | udFE_4
  /-- `#UD`, FE /5: R288. -/
  | udFE_5
  /-- `#UD`, FE /6: R288. -/
  | udFE_6
  /-- `#UD`, FE /7: R288. -/
  | udFE_7
  /-- `#GP(0)`, FF /7: R288. -/
  | gpFF_7
  /-- `#UD`, 0F 00 /6: R288. -/
  | ud0F00_6
  /-- `#UD`, 0F 00 /7: R288. -/
  | ud0F00_7
  /-- `#UD`, 0F 01 /5: R288. -/
  | ud0F01_5
  /-- `#UD`, 0F 01 /7: R288. -/
  | ud0F01_7
  /-- `CLTS`, 0F 06: R728. -/
  | clts
  /-- `REP_INSB`, F3 6C: R494. -/
  | repInsb
  /-- `REP_INSW`, F3 6D: R494. -/
  | repInsw
  /-- `REP_MOVSB`, F3 A4: R494. -/
  | repMovsb
  /-- `REP_MOVSW`, F3 A5: R494. -/
  | repMovsw
  /-- `REP_OUTSB`, F3 6E: R494. -/
  | repOutsb
  /-- `REP_OUTSW`, F3 6F: R494. -/
  | repOutsw
  /-- `REP_STOSB`, F3 AA: R494. -/
  | repStosb
  /-- `REP_STOSW`, F3 AB: R494. -/
  | repStosw
  /-- `REP_LODSB`, F3 AC: R494. -/
  | repLodsb
  /-- `REP_LODSW`, F3 AD: R494. -/
  | repLodsw
  /-- `REPE_CMPSB`, F3 A6: R494. -/
  | repeCmpsb
  /-- `REPE_CMPSW`, F3 A7: R494. -/
  | repeCmpsw
  /-- `REPE_SCASB`, F3 AE: R494. -/
  | repeScasb
  /-- `REPE_SCASW`, F3 AF: R494. -/
  | repeScasw
  /-- `REPNE_CMPSB`, F2 A6: R494. -/
  | repneCmpsb
  /-- `REPNE_CMPSW`, F2 A7: R494. -/
  | repneCmpsw
  /-- `REPNE_SCASB`, F2 AE: R494. -/
  | repneScasb
  /-- `REPNE_SCASW`, F2 AF: R494. -/
  | repneScasw
  deriving DecidableEq, Repr

end Sys2Proof
end

