-- ==== Sys2Proof/Config.lean ====
section
/-!
DEFINITION. What the system around the CPU fixes and what the manual leaves open: constants with no body, so that
nothing can be proved of their values (00 R8; 93 U1, U4, U5, U6; logs 8, 12, 13, 14, 15, 20).
A free value is one of them applied to the counter `State.draw`, so that every draw is a new one.
-/

namespace Sys2Proof

/-- The memory operand of an ESC as the CPU resolved it: selector, effective address, and the physical address of its
first word (30 R272; 45 R596). -/
structure EscOperand where
  sel : Word
  off : Word
  addr : Addr
  deriving DecidableEq, Repr

/-- An ESC as it is handed to the processor extension (45 R596; 00 R6; log 20): the instruction, with the register or
the address form of its ModRM byte, where it stands, prefixes included, and its operand in memory, if it has one. -/
structure EscCall where
  /-- The opcode bits TTT LLL. -/
  op : BitVec 6
  /-- mod and r/m, with the displacement. -/
  e : Ew
  /-- CS of the ESC. -/
  cs : Word
  /-- IP of the first byte of the ESC. -/
  ip : Word
  operand : Option EscOperand
  deriving DecidableEq, Repr

/-- One bus cycle on the I/O space, as the CPU makes it (20 R120, 60 R792, 45 R596). The history of these cycles is
all that a device can have seen of the CPU. -/
inductive IoCycle where
  /-- A byte read from a port. -/
  | readByte (port : Word)
  /-- A word read from an even port, in one cycle. -/
  | readWord (port : Word)
  /-- A byte written to a port. -/
  | writeByte (port : Word) (v : Byte)
  /-- A word written to an even port, in one cycle. -/
  | writeWord (port : Word) (v : Word)
  /-- The interrupt acknowledge sequence, which returned a vector. -/
  | intAck (vector : Byte)
  /-- An ESC handed to the processor extension, all its I/O operations as one entry. -/
  | escape (call : EscCall)
  deriving DecidableEq, Repr

/-- The six status flags (10 R48). -/
inductive StatusFlag where
  | cf | pf | af | zf | sf | of
  deriving DecidableEq, Repr

/-- The registers a faulting string instruction may leave at any value (93 U4). -/
inductive FreeSlot where
  | ax | cx | si | di
  deriving DecidableEq, Repr

/-- `IoSpace` (92 D2): the byte a port returns, given the cycles the devices have seen. UNVERIFIED: outside the spec. -/
opaque Config.ioRead : List IoCycle → Word → Byte

/-- An undefined flag (93 U1): its value at draw `n`, independent per flag and per draw. -/
opaque Config.freeFlag : Nat → StatusFlag → Bool

/-- A register left at any value (93 U4) at draw `n`. -/
opaque Config.freeWord : Nat → FreeSlot → Word

/-- A byte left at any value (93 U6) at draw `n`. -/
opaque Config.freeByte : Nat → Byte

/-- Whether the port of a limit-faulting INS was read (93 U4) at draw `n`. -/
opaque Config.freeChoice : Nat → Bool

/-- Which of the four values 0000H, 0001H, FFFEH, FFFFH a wrapped PUSHA or POPA leaves in SP (93 U5) at draw `n`. -/
opaque Config.freeCase : Nat → BitVec 2

/-- Whether an ESC opcode makes the extension store its memory operand (45 R596, R598); the opcodes are the
extension's own, outside the spec (00 R6). -/
opaque Config.escWrites : BitVec 6 → Bool

end Sys2Proof
end

