-- ==== Sys2Proof/WellFormed.lean ====
section
/-!
DEFINITION. Which terms of `Instr` are instructions the encoding can hold and execute as their row says: every
memory operand has an encoding (there is no `[BP]` without displacement, 30 R272), a memory-only operand is in
memory (30 R268), `XCHG AX,rw` has no AX form (30 R300: 90H is NOP), and the second byte of the `0F` row is none of
the five defined ones (30 R287).
-/

namespace Sys2Proof

/-- A memory operand that has a ModRM encoding: `[BP]` alone has none (30 R272). -/
def MemRef.wf : MemRef → Bool
  | .idx .bp .none => false
  | .idx _ _ => true
  | .direct _ => true

/-- An r/m operand that has an encoding. -/
def Rm.wf {ρ : Type} : Rm ρ → Bool
  | .reg _ => true
  | .mem m => m.wf

/-- A memory-only operand (30 R268): in memory, with an encoding. -/
def Rm.memWf {ρ : Type} : Rm ρ → Bool
  | .reg _ => false
  | .mem m => m.wf

/-- The second opcode bytes that 30 R287 defines after 0FH. -/
def definedSecondByte (b : Byte) : Bool :=
  b == 0x00 || b == 0x01 || b == 0x02 || b == 0x03 || b == 0x06

/-- A well-formed instruction. -/
def Instr.wf : Instr → Bool
  | .addEbRb e _ => e.wf
  | .addEwRw e _ => e.wf
  | .addRbEb _ e => e.wf
  | .addRwEw _ e => e.wf
  | .addAlDb _ => true
  | .addAxDw _ => true
  | .addEbDb e _ => e.wf
  | .addEwDw e _ => e.wf
  | .addEwDb e _ => e.wf
  | .orEbRb e _ => e.wf
  | .orEwRw e _ => e.wf
  | .orRbEb _ e => e.wf
  | .orRwEw _ e => e.wf
  | .orAlDb _ => true
  | .orAxDw _ => true
  | .orEbDb e _ => e.wf
  | .orEwDw e _ => e.wf
  | .adcEbRb e _ => e.wf
  | .adcEwRw e _ => e.wf
  | .adcRbEb _ e => e.wf
  | .adcRwEw _ e => e.wf
  | .adcAlDb _ => true
  | .adcAxDw _ => true
  | .adcEbDb e _ => e.wf
  | .adcEwDw e _ => e.wf
  | .adcEwDb e _ => e.wf
  | .sbbEbRb e _ => e.wf
  | .sbbEwRw e _ => e.wf
  | .sbbRbEb _ e => e.wf
  | .sbbRwEw _ e => e.wf
  | .sbbAlDb _ => true
  | .sbbAxDw _ => true
  | .sbbEbDb e _ => e.wf
  | .sbbEwDw e _ => e.wf
  | .sbbEwDb e _ => e.wf
  | .andEbRb e _ => e.wf
  | .andEwRw e _ => e.wf
  | .andRbEb _ e => e.wf
  | .andRwEw _ e => e.wf
  | .andAlDb _ => true
  | .andAxDw _ => true
  | .andEbDb e _ => e.wf
  | .andEwDw e _ => e.wf
  | .subEbRb e _ => e.wf
  | .subEwRw e _ => e.wf
  | .subRbEb _ e => e.wf
  | .subRwEw _ e => e.wf
  | .subAlDb _ => true
  | .subAxDw _ => true
  | .subEbDb e _ => e.wf
  | .subEwDw e _ => e.wf
  | .subEwDb e _ => e.wf
  | .xorEbRb e _ => e.wf
  | .xorEwRw e _ => e.wf
  | .xorRbEb _ e => e.wf
  | .xorRwEw _ e => e.wf
  | .xorAlDb _ => true
  | .xorAxDw _ => true
  | .xorEbDb e _ => e.wf
  | .xorEwDw e _ => e.wf
  | .cmpEbRb e _ => e.wf
  | .cmpEwRw e _ => e.wf
  | .cmpRbEb _ e => e.wf
  | .cmpRwEw _ e => e.wf
  | .cmpAlDb _ => true
  | .cmpAxDw _ => true
  | .cmpEbDb e _ => e.wf
  | .cmpEwDw e _ => e.wf
  | .cmpEwDb e _ => e.wf
  | .ud0F b => !definedSecondByte b
  | .incRw _ => true
  | .decRw _ => true
  | .pushRw _ => true
  | .popRw _ => true
  | .boundRwMd _ e => e.memWf
  | .arplEwRw e _ => e.wf
  | .pushDw _ => true
  | .imulRwEwDw _ e _ => e.wf
  | .pushDb _ => true
  | .imulRwEwDb _ e _ => e.wf
  | .joCb _ => true
  | .jnoCb _ => true
  | .jbCb _ => true
  | .jaeCb _ => true
  | .jeCb _ => true
  | .jneCb _ => true
  | .jbeCb _ => true
  | .jaCb _ => true
  | .jsCb _ => true
  | .jnsCb _ => true
  | .jpCb _ => true
  | .jnpCb _ => true
  | .jlCb _ => true
  | .jgeCb _ => true
  | .jleCb _ => true
  | .jgCb _ => true
  | .testEbRb e _ => e.wf
  | .testEwRw e _ => e.wf
  | .xchgEbRb e _ => e.wf
  | .xchgEwRw e _ => e.wf
  | .movEbRb e _ => e.wf
  | .movEwRw e _ => e.wf
  | .movRbEb _ e => e.wf
  | .movRwEw _ e => e.wf
  | .movEwEs e => e.wf
  | .movEwCs e => e.wf
  | .movEwSs e => e.wf
  | .movEwDs e => e.wf
  | .leaRwM _ e => e.memWf
  | .movEsEw e => e.wf
  | .movSsEw e => e.wf
  | .movDsEw e => e.wf
  | .popMw e => e.memWf
  | .xchgAxRw r => r != .ax
  | .callCd _ _ => true
  | .movAlXb _ => true
  | .movAxXw _ => true
  | .movXbAl _ => true
  | .movXwAx _ => true
  | .testAlDb _ => true
  | .testAxDw _ => true
  | .movRbDb _ _ => true
  | .movRwDw _ _ => true
  | .rolEbDb e _ => e.wf
  | .rorEbDb e _ => e.wf
  | .rclEbDb e _ => e.wf
  | .rcrEbDb e _ => e.wf
  | .salEbDb e _ => e.wf
  | .shrEbDb e _ => e.wf
  | .sarEbDb e _ => e.wf
  | .rolEwDb e _ => e.wf
  | .rorEwDb e _ => e.wf
  | .rclEwDb e _ => e.wf
  | .rcrEwDb e _ => e.wf
  | .salEwDb e _ => e.wf
  | .shrEwDb e _ => e.wf
  | .sarEwDb e _ => e.wf
  | .rolEb1 e => e.wf
  | .rorEb1 e => e.wf
  | .rclEb1 e => e.wf
  | .rcrEb1 e => e.wf
  | .salEb1 e => e.wf
  | .shrEb1 e => e.wf
  | .sarEb1 e => e.wf
  | .rolEw1 e => e.wf
  | .rorEw1 e => e.wf
  | .rclEw1 e => e.wf
  | .rcrEw1 e => e.wf
  | .salEw1 e => e.wf
  | .shrEw1 e => e.wf
  | .sarEw1 e => e.wf
  | .rolEbCl e => e.wf
  | .rorEbCl e => e.wf
  | .rclEbCl e => e.wf
  | .rcrEbCl e => e.wf
  | .salEbCl e => e.wf
  | .shrEbCl e => e.wf
  | .sarEbCl e => e.wf
  | .rolEwCl e => e.wf
  | .rorEwCl e => e.wf
  | .rclEwCl e => e.wf
  | .rcrEwCl e => e.wf
  | .salEwCl e => e.wf
  | .shrEwCl e => e.wf
  | .sarEwCl e => e.wf
  | .retNearDw _ => true
  | .lesRwEd _ e => e.memWf
  | .ldsRwEd _ e => e.memWf
  | .movEbDb e _ => e.wf
  | .movEwDw e _ => e.wf
  | .enterDwDb _ _ => true
  | .retFarDw _ => true
  | .intDb _ => true
  | .esc _ e => e.wf
  | .loopneCb _ => true
  | .loopeCb _ => true
  | .loopCb _ => true
  | .jcxzCb _ => true
  | .inAlDb _ => true
  | .inAxDb _ => true
  | .outDbAl _ => true
  | .outDbAx _ => true
  | .callCw _ => true
  | .jmpCw _ => true
  | .jmpCd _ _ => true
  | .jmpCb _ => true
  | .testEbDb e _ => e.wf
  | .notEb e => e.wf
  | .negEb e => e.wf
  | .mulEb e => e.wf
  | .imulEb e => e.wf
  | .divEb e => e.wf
  | .idivEb e => e.wf
  | .testEwDw e _ => e.wf
  | .notEw e => e.wf
  | .negEw e => e.wf
  | .mulEw e => e.wf
  | .imulEw e => e.wf
  | .divEw e => e.wf
  | .idivEw e => e.wf
  | .incEb e => e.wf
  | .decEb e => e.wf
  | .incEw e => e.wf
  | .decEw e => e.wf
  | .callEw e => e.wf
  | .callEd e => e.memWf
  | .jmpEw e => e.wf
  | .jmpMd e => e.memWf
  | .pushMw e => e.memWf
  | .sldtEw e => e.wf
  | .strEw e => e.wf
  | .lldtEw e => e.wf
  | .ltrEw e => e.wf
  | .verrEw e => e.wf
  | .verwEw e => e.wf
  | .sgdtM e => e.memWf
  | .sidtM e => e.memWf
  | .lgdtM e => e.memWf
  | .lidtM e => e.memWf
  | .smswEw e => e.wf
  | .lmswEw e => e.wf
  | .larRwEw _ e => e.wf
  | .lslRwEw _ e => e.wf
  | .ud83_1 => true
  | .ud83_4 => true
  | .ud83_6 => true
  | .daa => true
  | .das => true
  | .aaa => true
  | .aas => true
  | .aam => true
  | .aad => true
  | .pushEs => true
  | .pushCs => true
  | .pushSs => true
  | .pushDs => true
  | .popEs => true
  | .popSs => true
  | .popDs => true
  | .segEs => true
  | .segCs => true
  | .segSs => true
  | .segDs => true
  | .lock => true
  | .repne => true
  | .rep => true
  | .pusha => true
  | .popa => true
  | .ud64 => true
  | .ud65 => true
  | .ud66 => true
  | .ud67 => true
  | .insb => true
  | .insw => true
  | .outsb => true
  | .outsw => true
  | .ud82 => true
  | .ud8C_4 => true
  | .ud8C_5 => true
  | .ud8C_6 => true
  | .ud8C_7 => true
  | .ud8E_1 => true
  | .ud8E_4 => true
  | .ud8E_5 => true
  | .ud8E_6 => true
  | .ud8E_7 => true
  | .gp8F_1 => true
  | .gp8F_2 => true
  | .gp8F_3 => true
  | .gp8F_4 => true
  | .gp8F_5 => true
  | .gp8F_6 => true
  | .gp8F_7 => true
  | .nop => true
  | .cbw => true
  | .cwd => true
  | .wait => true
  | .pushf => true
  | .popf => true
  | .sahf => true
  | .lahf => true
  | .movsb => true
  | .movsw => true
  | .cmpsb => true
  | .cmpsw => true
  | .stosb => true
  | .stosw => true
  | .lodsb => true
  | .lodsw => true
  | .scasb => true
  | .scasw => true
  | .udC0_6 => true
  | .udC1_6 => true
  | .udD0_6 => true
  | .udD1_6 => true
  | .udD2_6 => true
  | .udD3_6 => true
  | .retNear => true
  | .udC6_1 => true
  | .udC6_2 => true
  | .udC6_3 => true
  | .udC6_4 => true
  | .udC6_5 => true
  | .udC6_6 => true
  | .udC6_7 => true
  | .udC7_1 => true
  | .udC7_2 => true
  | .udC7_3 => true
  | .udC7_4 => true
  | .udC7_5 => true
  | .udC7_6 => true
  | .udC7_7 => true
  | .leave => true
  | .retFar => true
  | .int3 => true
  | .into => true
  | .iret => true
  | .udD6 => true
  | .xlatb => true
  | .inAlDx => true
  | .inAxDx => true
  | .outDxAl => true
  | .outDxAx => true
  | .udF1 => true
  | .hlt => true
  | .cmc => true
  | .udF6_1 => true
  | .udF7_1 => true
  | .clc => true
  | .stc => true
  | .cli => true
  | .sti => true
  | .cld => true
  | .std => true
  | .udFE_2 => true
  | .udFE_3 => true
  | .udFE_4 => true
  | .udFE_5 => true
  | .udFE_6 => true
  | .udFE_7 => true
  | .gpFF_7 => true
  | .ud0F00_6 => true
  | .ud0F00_7 => true
  | .ud0F01_5 => true
  | .ud0F01_7 => true
  | .clts => true
  | .repInsb => true
  | .repInsw => true
  | .repMovsb => true
  | .repMovsw => true
  | .repOutsb => true
  | .repOutsw => true
  | .repStosb => true
  | .repStosw => true
  | .repLodsb => true
  | .repLodsw => true
  | .repeCmpsb => true
  | .repeCmpsw => true
  | .repeScasb => true
  | .repeScasw => true
  | .repneCmpsb => true
  | .repneCmpsw => true
  | .repneScasb => true
  | .repneScasw => true

end Sys2Proof
end

