-- ==== Sys2Proof/Decode.lean ====
section
/-!
DEFINITION. Decoding (30 R260-R290): a total function from bytes to an instruction and the bytes after it, or a
refusal by name; then the encoder of the same tables. A prefix byte is a token of its own, and so is a repeat prefix
that stands directly before the string opcode the table pairs it with (log 10).
-/

namespace Sys2Proof

/-- Why bytes are not an instruction. `truncated`: the code segment ends inside it (20 R114). `aamBase`, `aadBase`:
D4 or D5 with a second byte other than 0AH, which the spec gives no meaning (93 U3). -/
inductive DecodeErr where
  | truncated
  | aamBase (b : Byte)
  | aadBase (b : Byte)
  deriving DecidableEq, Repr

/-- A parser of the bytes after the opcode. -/
abbrev Parser := List Byte → Except DecodeErr (Instr × List Byte)

/-! ### Register numbers (30 R266, R267) -/

/-- The word register with a code. -/
def Reg16.ofCode (c : BitVec 3) : Reg16 :=
  match c.toNat with
  | 0 => .ax | 1 => .cx | 2 => .dx | 3 => .bx | 4 => .sp | 5 => .bp | 6 => .si | _ => .di

/-- The code of a word register. -/
def Reg16.code : Reg16 → BitVec 3
  | .ax => 0 | .cx => 1 | .dx => 2 | .bx => 3 | .sp => 4 | .bp => 5 | .si => 6 | .di => 7

/-- The byte register with a code. -/
def Reg8.ofCode (c : BitVec 3) : Reg8 :=
  match c.toNat with
  | 0 => .al | 1 => .cl | 2 => .dl | 3 => .bl | 4 => .ah | 5 => .ch | 6 => .dh | _ => .bh

/-- The code of a byte register. -/
def Reg8.code : Reg8 → BitVec 3
  | .al => 0 | .cl => 1 | .dl => 2 | .bl => 3 | .ah => 4 | .ch => 5 | .dh => 6 | .bh => 7

/-- The base/index form with an r/m code (30 R272). -/
def MemBase.ofCode (c : BitVec 3) : MemBase :=
  match c.toNat with
  | 0 => .bxSi | 1 => .bxDi | 2 => .bpSi | 3 => .bpDi | 4 => .si | 5 => .di | 6 => .bp | _ => .bx

/-- The r/m code of a base/index form. -/
def MemBase.code : MemBase → BitVec 3
  | .bxSi => 0 | .bxDi => 1 | .bpSi => 2 | .bpDi => 3 | .si => 4 | .di => 5 | .bp => 6 | .bx => 7

/-- An operand with its register number read as a register. -/
def Rm.map {ρ σ : Type} (f : ρ → σ) : Rm ρ → Rm σ
  | .reg r => .reg (f r)
  | .mem m => .mem m

/-! ### Parsers of the parts after the opcode (30 R260, R261, R270, R280-R282) -/

/-- Nothing follows. -/
def pNone (i : Instr) : Parser := fun bs => .ok (i, bs)

/-- One byte follows: `db`, `cb`. -/
def pImm8 (f : Byte → Instr) : Parser
  | b :: t => .ok (f b, t)
  | [] => .error .truncated

/-- One byte follows and is fetched only: the immediate of an invalid encoding (30 R288). -/
def pSkip8 (i : Instr) : Parser
  | _ :: t => .ok (i, t)
  | [] => .error .truncated

/-- One word follows, low byte first: `dw`, `cw`. -/
def pImm16 (f : Word → Instr) : Parser
  | l :: h :: t => .ok (f (wordOf h l), t)
  | _ => .error .truncated

/-- A word and a byte follow: ENTER's `dw db`. -/
def pImm16Imm8 (f : Word → Byte → Instr) : Parser
  | l :: h :: b :: t => .ok (f (wordOf h l) b, t)
  | _ => .error .truncated

/-- A far pointer follows: offset word, selector word (30 R282). -/
def pPtr (f : Word → Word → Instr) : Parser
  | ol :: oh :: sl :: sh :: t => .ok (f (wordOf oh ol) (wordOf sh sl), t)
  | _ => .error .truncated

/-- The displacement of `mod`, `r/m` (30 R270), then the rest. -/
def pMem (md rm : BitVec 3) (k : MemRef → Parser) : Parser
  | bs =>
    if md = 0 then
      if rm = 6 then
        match bs with
        | l :: h :: t => k (.direct (wordOf h l)) t
        | _ => .error .truncated
      else k (.idx (MemBase.ofCode rm) .none) bs
    else if md = 1 then
      match bs with
      | b :: t => k (.idx (MemBase.ofCode rm) (.d8 b)) t
      | _ => .error .truncated
    else
      match bs with
      | l :: h :: t => k (.idx (MemBase.ofCode rm) (.d16 (wordOf h l))) t
      | _ => .error .truncated

/-- A ModRM byte (30 R265) with its displacement; `k` gets the `reg` field and the operand. -/
def pModRM (k : BitVec 3 → Rm (BitVec 3) → Parser) : Parser
  | m :: t =>
    let md : BitVec 3 := (m.extractLsb' 6 2).setWidth 3
    let rg : BitVec 3 := m.extractLsb' 3 3
    let rm : BitVec 3 := m.extractLsb' 0 3
    if md = 3 then k rg (.reg rm) t
    else pMem md rm (fun r => k rg (.mem r)) t
  | [] => .error .truncated

/-- `/r` with a byte register. -/
def pRB (f : Reg8 → Eb → Instr) : Parser :=
  pModRM fun r e => pNone (f (Reg8.ofCode r) (e.map Reg8.ofCode))

/-- `/r` with a word register. -/
def pRW (f : Reg16 → Ew → Instr) : Parser :=
  pModRM fun r e => pNone (f (Reg16.ofCode r) (e.map Reg16.ofCode))

/-- `/r dw`. -/
def pRWImm16 (f : Reg16 → Ew → Word → Instr) : Parser :=
  pModRM fun r e => pImm16 (f (Reg16.ofCode r) (e.map Reg16.ofCode))

/-- `/r db`. -/
def pRWImm8 (f : Reg16 → Ew → Byte → Instr) : Parser :=
  pModRM fun r e => pImm8 (f (Reg16.ofCode r) (e.map Reg16.ofCode))

/-! ### The opcode groups (30 R286-R288) -/

/-- The group of opcode 80, by the `reg` field (30 R286-R288). -/
def group80 (n : BitVec 3) (e : Eb) : Parser :=
  match n.toNat with
  | 0 => pImm8 (.addEbDb e)
  | 1 => pImm8 (.orEbDb e)
  | 2 => pImm8 (.adcEbDb e)
  | 3 => pImm8 (.sbbEbDb e)
  | 4 => pImm8 (.andEbDb e)
  | 5 => pImm8 (.subEbDb e)
  | 6 => pImm8 (.xorEbDb e)
  | _ => pImm8 (.cmpEbDb e)

/-- The group of opcode 81, by the `reg` field (30 R286-R288). -/
def group81 (n : BitVec 3) (e : Ew) : Parser :=
  match n.toNat with
  | 0 => pImm16 (.addEwDw e)
  | 1 => pImm16 (.orEwDw e)
  | 2 => pImm16 (.adcEwDw e)
  | 3 => pImm16 (.sbbEwDw e)
  | 4 => pImm16 (.andEwDw e)
  | 5 => pImm16 (.subEwDw e)
  | 6 => pImm16 (.xorEwDw e)
  | _ => pImm16 (.cmpEwDw e)

/-- The group of opcode 83, by the `reg` field (30 R286-R288). -/
def group83 (n : BitVec 3) (e : Ew) : Parser :=
  match n.toNat with
  | 0 => pImm8 (.addEwDb e)
  | 1 => pSkip8 .ud83_1
  | 2 => pImm8 (.adcEwDb e)
  | 3 => pImm8 (.sbbEwDb e)
  | 4 => pSkip8 .ud83_4
  | 5 => pImm8 (.subEwDb e)
  | 6 => pSkip8 .ud83_6
  | _ => pImm8 (.cmpEwDb e)

/-- The group of opcode 8C, by the `reg` field (30 R286-R288). -/
def group8C (n : BitVec 3) (e : Ew) : Parser :=
  match n.toNat with
  | 0 => pNone (.movEwEs e)
  | 1 => pNone (.movEwCs e)
  | 2 => pNone (.movEwSs e)
  | 3 => pNone (.movEwDs e)
  | 4 => pNone .ud8C_4
  | 5 => pNone .ud8C_5
  | 6 => pNone .ud8C_6
  | _ => pNone .ud8C_7

/-- The group of opcode 8E, by the `reg` field (30 R286-R288). -/
def group8E (n : BitVec 3) (e : Ew) : Parser :=
  match n.toNat with
  | 0 => pNone (.movEsEw e)
  | 1 => pNone .ud8E_1
  | 2 => pNone (.movSsEw e)
  | 3 => pNone (.movDsEw e)
  | 4 => pNone .ud8E_4
  | 5 => pNone .ud8E_5
  | 6 => pNone .ud8E_6
  | _ => pNone .ud8E_7

/-- The group of opcode 8F, by the `reg` field (30 R286-R288). -/
def group8F (n : BitVec 3) (e : Ew) : Parser :=
  match n.toNat with
  | 0 => pNone (.popMw e)
  | 1 => pNone .gp8F_1
  | 2 => pNone .gp8F_2
  | 3 => pNone .gp8F_3
  | 4 => pNone .gp8F_4
  | 5 => pNone .gp8F_5
  | 6 => pNone .gp8F_6
  | _ => pNone .gp8F_7

/-- The group of opcode C0, by the `reg` field (30 R286-R288). -/
def groupC0 (n : BitVec 3) (e : Eb) : Parser :=
  match n.toNat with
  | 0 => pImm8 (.rolEbDb e)
  | 1 => pImm8 (.rorEbDb e)
  | 2 => pImm8 (.rclEbDb e)
  | 3 => pImm8 (.rcrEbDb e)
  | 4 => pImm8 (.salEbDb e)
  | 5 => pImm8 (.shrEbDb e)
  | 6 => pSkip8 .udC0_6
  | _ => pImm8 (.sarEbDb e)

/-- The group of opcode C1, by the `reg` field (30 R286-R288). -/
def groupC1 (n : BitVec 3) (e : Ew) : Parser :=
  match n.toNat with
  | 0 => pImm8 (.rolEwDb e)
  | 1 => pImm8 (.rorEwDb e)
  | 2 => pImm8 (.rclEwDb e)
  | 3 => pImm8 (.rcrEwDb e)
  | 4 => pImm8 (.salEwDb e)
  | 5 => pImm8 (.shrEwDb e)
  | 6 => pSkip8 .udC1_6
  | _ => pImm8 (.sarEwDb e)

/-- The group of opcode D0, by the `reg` field (30 R286-R288). -/
def groupD0 (n : BitVec 3) (e : Eb) : Parser :=
  match n.toNat with
  | 0 => pNone (.rolEb1 e)
  | 1 => pNone (.rorEb1 e)
  | 2 => pNone (.rclEb1 e)
  | 3 => pNone (.rcrEb1 e)
  | 4 => pNone (.salEb1 e)
  | 5 => pNone (.shrEb1 e)
  | 6 => pNone .udD0_6
  | _ => pNone (.sarEb1 e)

/-- The group of opcode D1, by the `reg` field (30 R286-R288). -/
def groupD1 (n : BitVec 3) (e : Ew) : Parser :=
  match n.toNat with
  | 0 => pNone (.rolEw1 e)
  | 1 => pNone (.rorEw1 e)
  | 2 => pNone (.rclEw1 e)
  | 3 => pNone (.rcrEw1 e)
  | 4 => pNone (.salEw1 e)
  | 5 => pNone (.shrEw1 e)
  | 6 => pNone .udD1_6
  | _ => pNone (.sarEw1 e)

/-- The group of opcode D2, by the `reg` field (30 R286-R288). -/
def groupD2 (n : BitVec 3) (e : Eb) : Parser :=
  match n.toNat with
  | 0 => pNone (.rolEbCl e)
  | 1 => pNone (.rorEbCl e)
  | 2 => pNone (.rclEbCl e)
  | 3 => pNone (.rcrEbCl e)
  | 4 => pNone (.salEbCl e)
  | 5 => pNone (.shrEbCl e)
  | 6 => pNone .udD2_6
  | _ => pNone (.sarEbCl e)

/-- The group of opcode D3, by the `reg` field (30 R286-R288). -/
def groupD3 (n : BitVec 3) (e : Ew) : Parser :=
  match n.toNat with
  | 0 => pNone (.rolEwCl e)
  | 1 => pNone (.rorEwCl e)
  | 2 => pNone (.rclEwCl e)
  | 3 => pNone (.rcrEwCl e)
  | 4 => pNone (.salEwCl e)
  | 5 => pNone (.shrEwCl e)
  | 6 => pNone .udD3_6
  | _ => pNone (.sarEwCl e)

/-- The group of opcode C6, by the `reg` field (30 R286-R288). -/
def groupC6 (n : BitVec 3) (e : Eb) : Parser :=
  match n.toNat with
  | 0 => pImm8 (.movEbDb e)
  | 1 => pNone .udC6_1
  | 2 => pNone .udC6_2
  | 3 => pNone .udC6_3
  | 4 => pNone .udC6_4
  | 5 => pNone .udC6_5
  | 6 => pNone .udC6_6
  | _ => pNone .udC6_7

/-- The group of opcode C7, by the `reg` field (30 R286-R288). -/
def groupC7 (n : BitVec 3) (e : Ew) : Parser :=
  match n.toNat with
  | 0 => pImm16 (.movEwDw e)
  | 1 => pNone .udC7_1
  | 2 => pNone .udC7_2
  | 3 => pNone .udC7_3
  | 4 => pNone .udC7_4
  | 5 => pNone .udC7_5
  | 6 => pNone .udC7_6
  | _ => pNone .udC7_7

/-- The group of opcode F6, by the `reg` field (30 R286-R288). -/
def groupF6 (n : BitVec 3) (e : Eb) : Parser :=
  match n.toNat with
  | 0 => pImm8 (.testEbDb e)
  | 1 => pNone .udF6_1
  | 2 => pNone (.notEb e)
  | 3 => pNone (.negEb e)
  | 4 => pNone (.mulEb e)
  | 5 => pNone (.imulEb e)
  | 6 => pNone (.divEb e)
  | _ => pNone (.idivEb e)

/-- The group of opcode F7, by the `reg` field (30 R286-R288). -/
def groupF7 (n : BitVec 3) (e : Ew) : Parser :=
  match n.toNat with
  | 0 => pImm16 (.testEwDw e)
  | 1 => pNone .udF7_1
  | 2 => pNone (.notEw e)
  | 3 => pNone (.negEw e)
  | 4 => pNone (.mulEw e)
  | 5 => pNone (.imulEw e)
  | 6 => pNone (.divEw e)
  | _ => pNone (.idivEw e)

/-- The group of opcode FE, by the `reg` field (30 R286-R288). -/
def groupFE (n : BitVec 3) (e : Eb) : Parser :=
  match n.toNat with
  | 0 => pNone (.incEb e)
  | 1 => pNone (.decEb e)
  | 2 => pNone .udFE_2
  | 3 => pNone .udFE_3
  | 4 => pNone .udFE_4
  | 5 => pNone .udFE_5
  | 6 => pNone .udFE_6
  | _ => pNone .udFE_7

/-- The group of opcode FF, by the `reg` field (30 R286-R288). -/
def groupFF (n : BitVec 3) (e : Ew) : Parser :=
  match n.toNat with
  | 0 => pNone (.incEw e)
  | 1 => pNone (.decEw e)
  | 2 => pNone (.callEw e)
  | 3 => pNone (.callEd e)
  | 4 => pNone (.jmpEw e)
  | 5 => pNone (.jmpMd e)
  | 6 => pNone (.pushMw e)
  | _ => pNone .gpFF_7

/-- The group of opcode 0F 00, by the `reg` field (30 R286-R288). -/
def group0F00 (n : BitVec 3) (e : Ew) : Parser :=
  match n.toNat with
  | 0 => pNone (.sldtEw e)
  | 1 => pNone (.strEw e)
  | 2 => pNone (.lldtEw e)
  | 3 => pNone (.ltrEw e)
  | 4 => pNone (.verrEw e)
  | 5 => pNone (.verwEw e)
  | 6 => pNone .ud0F00_6
  | _ => pNone .ud0F00_7

/-- The group of opcode 0F 01, by the `reg` field (30 R286-R288). -/
def group0F01 (n : BitVec 3) (e : Ew) : Parser :=
  match n.toNat with
  | 0 => pNone (.sgdtM e)
  | 1 => pNone (.sidtM e)
  | 2 => pNone (.lgdtM e)
  | 3 => pNone (.lidtM e)
  | 4 => pNone (.smswEw e)
  | 5 => pNone .ud0F01_5
  | 6 => pNone (.lmswEw e)
  | _ => pNone .ud0F01_7

/-! ### Opcodes that look at the byte after them -/

/-- The two-byte opcodes (30 R287). -/
def pTwoByte : Parser
  | [] => .error .truncated
  | b :: t =>
    if b = 0x00 then (pModRM fun n e => group0F00 n (e.map Reg16.ofCode)) t
    else if b = 0x01 then (pModRM fun n e => group0F01 n (e.map Reg16.ofCode)) t
    else if b = 0x02 then (pRW fun r e => .larRwEw r e) t
    else if b = 0x03 then (pRW fun r e => .lslRwEw r e) t
    else if b = 0x06 then .ok (.clts, t)
    else .ok (.ud0F b, t)

/-- D4: AAM with 0AH; nothing else has a meaning (41 R404, 93 U3; log 17). -/
def pAam : Parser
  | [] => .error .truncated
  | b :: t => if b = 0x0A then .ok (.aam, t) else .error (.aamBase b)

/-- D5: AAD with 0AH; nothing else has a meaning (41 R405, 93 U3; log 17). -/
def pAad : Parser
  | [] => .error .truncated
  | b :: t => if b = 0x0A then .ok (.aad, t) else .error (.aadBase b)

/-- The table's string opcode after F3H, if `b` is one (43 R493). -/
def repString (b : Byte) : Option Instr :=
  if b = 0x6C then some .repInsb
  else if b = 0x6D then some .repInsw
  else if b = 0xA4 then some .repMovsb
  else if b = 0xA5 then some .repMovsw
  else if b = 0x6E then some .repOutsb
  else if b = 0x6F then some .repOutsw
  else if b = 0xAA then some .repStosb
  else if b = 0xAB then some .repStosw
  else if b = 0xAC then some .repLodsb
  else if b = 0xAD then some .repLodsw
  else if b = 0xA6 then some .repeCmpsb
  else if b = 0xA7 then some .repeCmpsw
  else if b = 0xAE then some .repeScasb
  else if b = 0xAF then some .repeScasw
  else none

/-- F3H: with a string opcode of the table directly after it, the prefixed instruction; else the prefix alone. -/
def pRep : Parser
  | [] => .ok (.rep, [])
  | b :: t =>
    match repString b with
    | some i => .ok (i, t)
    | none => .ok (.rep, b :: t)

/-- The table's string opcode after F2H, if `b` is one (43 R493). -/
def repneString (b : Byte) : Option Instr :=
  if b = 0xA6 then some .repneCmpsb
  else if b = 0xA7 then some .repneCmpsw
  else if b = 0xAE then some .repneScasb
  else if b = 0xAF then some .repneScasw
  else none

/-- F2H: with a string opcode of the table directly after it, the prefixed instruction; else the prefix alone. -/
def pRepne : Parser
  | [] => .ok (.repne, [])
  | b :: t =>
    match repneString b with
    | some i => .ok (i, t)
    | none => .ok (.repne, b :: t)

/-! ### The opcode map (30 R285): sixteen rows of sixteen -/

/-- Opcodes 00-0F. -/
def opRow0 : List Parser := [
  pRB fun r e => .addEbRb e r,
  pRW fun r e => .addEwRw e r,
  pRB fun r e => .addRbEb r e,
  pRW fun r e => .addRwEw r e,
  pImm8 .addAlDb,
  pImm16 .addAxDw,
  pNone .pushEs,
  pNone .popEs,
  pRB fun r e => .orEbRb e r,
  pRW fun r e => .orEwRw e r,
  pRB fun r e => .orRbEb r e,
  pRW fun r e => .orRwEw r e,
  pImm8 .orAlDb,
  pImm16 .orAxDw,
  pNone .pushCs,
  pTwoByte]

/-- Opcodes 10-1F. -/
def opRow1 : List Parser := [
  pRB fun r e => .adcEbRb e r,
  pRW fun r e => .adcEwRw e r,
  pRB fun r e => .adcRbEb r e,
  pRW fun r e => .adcRwEw r e,
  pImm8 .adcAlDb,
  pImm16 .adcAxDw,
  pNone .pushSs,
  pNone .popSs,
  pRB fun r e => .sbbEbRb e r,
  pRW fun r e => .sbbEwRw e r,
  pRB fun r e => .sbbRbEb r e,
  pRW fun r e => .sbbRwEw r e,
  pImm8 .sbbAlDb,
  pImm16 .sbbAxDw,
  pNone .pushDs,
  pNone .popDs]

/-- Opcodes 20-2F. -/
def opRow2 : List Parser := [
  pRB fun r e => .andEbRb e r,
  pRW fun r e => .andEwRw e r,
  pRB fun r e => .andRbEb r e,
  pRW fun r e => .andRwEw r e,
  pImm8 .andAlDb,
  pImm16 .andAxDw,
  pNone .segEs,
  pNone .daa,
  pRB fun r e => .subEbRb e r,
  pRW fun r e => .subEwRw e r,
  pRB fun r e => .subRbEb r e,
  pRW fun r e => .subRwEw r e,
  pImm8 .subAlDb,
  pImm16 .subAxDw,
  pNone .segCs,
  pNone .das]

/-- Opcodes 30-3F. -/
def opRow3 : List Parser := [
  pRB fun r e => .xorEbRb e r,
  pRW fun r e => .xorEwRw e r,
  pRB fun r e => .xorRbEb r e,
  pRW fun r e => .xorRwEw r e,
  pImm8 .xorAlDb,
  pImm16 .xorAxDw,
  pNone .segSs,
  pNone .aaa,
  pRB fun r e => .cmpEbRb e r,
  pRW fun r e => .cmpEwRw e r,
  pRB fun r e => .cmpRbEb r e,
  pRW fun r e => .cmpRwEw r e,
  pImm8 .cmpAlDb,
  pImm16 .cmpAxDw,
  pNone .segDs,
  pNone .aas]

/-- Opcodes 40-4F. -/
def opRow4 : List Parser := [
  pNone (.incRw .ax),
  pNone (.incRw .cx),
  pNone (.incRw .dx),
  pNone (.incRw .bx),
  pNone (.incRw .sp),
  pNone (.incRw .bp),
  pNone (.incRw .si),
  pNone (.incRw .di),
  pNone (.decRw .ax),
  pNone (.decRw .cx),
  pNone (.decRw .dx),
  pNone (.decRw .bx),
  pNone (.decRw .sp),
  pNone (.decRw .bp),
  pNone (.decRw .si),
  pNone (.decRw .di)]

/-- Opcodes 50-5F. -/
def opRow5 : List Parser := [
  pNone (.pushRw .ax),
  pNone (.pushRw .cx),
  pNone (.pushRw .dx),
  pNone (.pushRw .bx),
  pNone (.pushRw .sp),
  pNone (.pushRw .bp),
  pNone (.pushRw .si),
  pNone (.pushRw .di),
  pNone (.popRw .ax),
  pNone (.popRw .cx),
  pNone (.popRw .dx),
  pNone (.popRw .bx),
  pNone (.popRw .sp),
  pNone (.popRw .bp),
  pNone (.popRw .si),
  pNone (.popRw .di)]

/-- Opcodes 60-6F. -/
def opRow6 : List Parser := [
  pNone .pusha,
  pNone .popa,
  pRW fun r e => .boundRwMd r e,
  pRW fun r e => .arplEwRw e r,
  pNone .ud64,
  pNone .ud65,
  pNone .ud66,
  pNone .ud67,
  pImm16 .pushDw,
  pRWImm16 fun r e w => .imulRwEwDw r e w,
  pImm8 .pushDb,
  pRWImm8 fun r e b => .imulRwEwDb r e b,
  pNone .insb,
  pNone .insw,
  pNone .outsb,
  pNone .outsw]

/-- Opcodes 70-7F. -/
def opRow7 : List Parser := [
  pImm8 .joCb,
  pImm8 .jnoCb,
  pImm8 .jbCb,
  pImm8 .jaeCb,
  pImm8 .jeCb,
  pImm8 .jneCb,
  pImm8 .jbeCb,
  pImm8 .jaCb,
  pImm8 .jsCb,
  pImm8 .jnsCb,
  pImm8 .jpCb,
  pImm8 .jnpCb,
  pImm8 .jlCb,
  pImm8 .jgeCb,
  pImm8 .jleCb,
  pImm8 .jgCb]

/-- Opcodes 80-8F. -/
def opRow8 : List Parser := [
  (pModRM fun n e => group80 n (e.map Reg8.ofCode)),
  (pModRM fun n e => group81 n (e.map Reg16.ofCode)),
  pNone .ud82,
  (pModRM fun n e => group83 n (e.map Reg16.ofCode)),
  pRB fun r e => .testEbRb e r,
  pRW fun r e => .testEwRw e r,
  pRB fun r e => .xchgEbRb e r,
  pRW fun r e => .xchgEwRw e r,
  pRB fun r e => .movEbRb e r,
  pRW fun r e => .movEwRw e r,
  pRB fun r e => .movRbEb r e,
  pRW fun r e => .movRwEw r e,
  (pModRM fun n e => group8C n (e.map Reg16.ofCode)),
  pRW fun r e => .leaRwM r e,
  (pModRM fun n e => group8E n (e.map Reg16.ofCode)),
  (pModRM fun n e => group8F n (e.map Reg16.ofCode))]

/-- Opcodes 90-9F. -/
def opRow9 : List Parser := [
  pNone .nop,
  pNone (.xchgAxRw .cx),
  pNone (.xchgAxRw .dx),
  pNone (.xchgAxRw .bx),
  pNone (.xchgAxRw .sp),
  pNone (.xchgAxRw .bp),
  pNone (.xchgAxRw .si),
  pNone (.xchgAxRw .di),
  pNone .cbw,
  pNone .cwd,
  pPtr .callCd,
  pNone .wait,
  pNone .pushf,
  pNone .popf,
  pNone .sahf,
  pNone .lahf]

/-- Opcodes A0-AF. -/
def opRowA : List Parser := [
  pImm16 .movAlXb,
  pImm16 .movAxXw,
  pImm16 .movXbAl,
  pImm16 .movXwAx,
  pNone .movsb,
  pNone .movsw,
  pNone .cmpsb,
  pNone .cmpsw,
  pImm8 .testAlDb,
  pImm16 .testAxDw,
  pNone .stosb,
  pNone .stosw,
  pNone .lodsb,
  pNone .lodsw,
  pNone .scasb,
  pNone .scasw]

/-- Opcodes B0-BF. -/
def opRowB : List Parser := [
  pImm8 (.movRbDb .al),
  pImm8 (.movRbDb .cl),
  pImm8 (.movRbDb .dl),
  pImm8 (.movRbDb .bl),
  pImm8 (.movRbDb .ah),
  pImm8 (.movRbDb .ch),
  pImm8 (.movRbDb .dh),
  pImm8 (.movRbDb .bh),
  pImm16 (.movRwDw .ax),
  pImm16 (.movRwDw .cx),
  pImm16 (.movRwDw .dx),
  pImm16 (.movRwDw .bx),
  pImm16 (.movRwDw .sp),
  pImm16 (.movRwDw .bp),
  pImm16 (.movRwDw .si),
  pImm16 (.movRwDw .di)]

/-- Opcodes C0-CF. -/
def opRowC : List Parser := [
  (pModRM fun n e => groupC0 n (e.map Reg8.ofCode)),
  (pModRM fun n e => groupC1 n (e.map Reg16.ofCode)),
  pImm16 .retNearDw,
  pNone .retNear,
  pRW fun r e => .lesRwEd r e,
  pRW fun r e => .ldsRwEd r e,
  (pModRM fun n e => groupC6 n (e.map Reg8.ofCode)),
  (pModRM fun n e => groupC7 n (e.map Reg16.ofCode)),
  pImm16Imm8 .enterDwDb,
  pNone .leave,
  pImm16 .retFarDw,
  pNone .retFar,
  pNone .int3,
  pImm8 .intDb,
  pNone .into,
  pNone .iret]

/-- Opcodes D0-DF. -/
def opRowD : List Parser := [
  (pModRM fun n e => groupD0 n (e.map Reg8.ofCode)),
  (pModRM fun n e => groupD1 n (e.map Reg16.ofCode)),
  (pModRM fun n e => groupD2 n (e.map Reg8.ofCode)),
  (pModRM fun n e => groupD3 n (e.map Reg16.ofCode)),
  pAam,
  pAad,
  pNone .udD6,
  pNone .xlatb,
  (pModRM fun n e => pNone (.esc (0#3 ++ n) (e.map Reg16.ofCode))),
  (pModRM fun n e => pNone (.esc (1#3 ++ n) (e.map Reg16.ofCode))),
  (pModRM fun n e => pNone (.esc (2#3 ++ n) (e.map Reg16.ofCode))),
  (pModRM fun n e => pNone (.esc (3#3 ++ n) (e.map Reg16.ofCode))),
  (pModRM fun n e => pNone (.esc (4#3 ++ n) (e.map Reg16.ofCode))),
  (pModRM fun n e => pNone (.esc (5#3 ++ n) (e.map Reg16.ofCode))),
  (pModRM fun n e => pNone (.esc (6#3 ++ n) (e.map Reg16.ofCode))),
  (pModRM fun n e => pNone (.esc (7#3 ++ n) (e.map Reg16.ofCode)))]

/-- Opcodes E0-EF. -/
def opRowE : List Parser := [
  pImm8 .loopneCb,
  pImm8 .loopeCb,
  pImm8 .loopCb,
  pImm8 .jcxzCb,
  pImm8 .inAlDb,
  pImm8 .inAxDb,
  pImm8 .outDbAl,
  pImm8 .outDbAx,
  pImm16 .callCw,
  pImm16 .jmpCw,
  pPtr .jmpCd,
  pImm8 .jmpCb,
  pNone .inAlDx,
  pNone .inAxDx,
  pNone .outDxAl,
  pNone .outDxAx]

/-- Opcodes F0-FF. -/
def opRowF : List Parser := [
  pNone .lock,
  pNone .udF1,
  pRepne,
  pRep,
  pNone .hlt,
  pNone .cmc,
  (pModRM fun n e => groupF6 n (e.map Reg8.ofCode)),
  (pModRM fun n e => groupF7 n (e.map Reg16.ofCode)),
  pNone .clc,
  pNone .stc,
  pNone .cli,
  pNone .sti,
  pNone .cld,
  pNone .std,
  (pModRM fun n e => groupFE n (e.map Reg8.ofCode)),
  (pModRM fun n e => groupFF n (e.map Reg16.ofCode))]

/-- The opcode map. -/
def opMap : List (List Parser) := [
  opRow0, opRow1, opRow2, opRow3, opRow4, opRow5, opRow6, opRow7, opRow8, opRow9, opRowA, opRowB, opRowC, opRowD, opRowE, opRowF]

/-- The parser of the bytes after an opcode byte. The defaults are never reached: the map is 16 by 16. -/
def opParser (b : Byte) : Parser :=
  ((opMap.getD (b.toNat / 16) []).getD (b.toNat % 16) (pNone .nop))

/-- Decode one token (30 R290 steps 2-5): the instruction at the head of `bs` and the bytes after it. -/
def decode : Parser
  | [] => .error .truncated
  | b :: t => opParser b t

/-! ### The encoder -/

/-- A ModRM byte from its fields (30 R265). -/
def modRMByte (md : BitVec 2) (rg rm : BitVec 3) : Byte := (md ++ rg) ++ rm

/-- The ModRM byte and displacement bytes of a memory operand with a `reg` field. -/
def encMem (rg : BitVec 3) : MemRef → List Byte
  | .direct w => [modRMByte 0 rg 6, w.lo, w.hi]
  | .idx b .none => [modRMByte 0 rg b.code]
  | .idx b (.d8 d) => [modRMByte 1 rg b.code, d]
  | .idx b (.d16 w) => [modRMByte 2 rg b.code, w.lo, w.hi]

/-- The ModRM byte and displacement bytes of a byte operand. -/
def encEb (rg : BitVec 3) : Eb → List Byte
  | .reg r => [modRMByte 3 rg r.code]
  | .mem m => encMem rg m

/-- The ModRM byte and displacement bytes of a word operand. -/
def encEw (rg : BitVec 3) : Ew → List Byte
  | .reg r => [modRMByte 3 rg r.code]
  | .mem m => encMem rg m

/-- The bytes of a well-formed instruction, in memory order. -/
def encode : Instr → List Byte
  | .addEbRb e r => [0x00] ++ encEb r.code e
  | .addEwRw e r => [0x01] ++ encEw r.code e
  | .addRbEb r e => [0x02] ++ encEb r.code e
  | .addRwEw r e => [0x03] ++ encEw r.code e
  | .addAlDb b => [0x04, b]
  | .addAxDw w => [0x05, w.lo, w.hi]
  | .addEbDb e b => [0x80] ++ encEb 0 e ++ [b]
  | .addEwDw e w => [0x81] ++ encEw 0 e ++ [w.lo, w.hi]
  | .addEwDb e b => [0x83] ++ encEw 0 e ++ [b]
  | .orEbRb e r => [0x08] ++ encEb r.code e
  | .orEwRw e r => [0x09] ++ encEw r.code e
  | .orRbEb r e => [0x0A] ++ encEb r.code e
  | .orRwEw r e => [0x0B] ++ encEw r.code e
  | .orAlDb b => [0x0C, b]
  | .orAxDw w => [0x0D, w.lo, w.hi]
  | .orEbDb e b => [0x80] ++ encEb 1 e ++ [b]
  | .orEwDw e w => [0x81] ++ encEw 1 e ++ [w.lo, w.hi]
  | .adcEbRb e r => [0x10] ++ encEb r.code e
  | .adcEwRw e r => [0x11] ++ encEw r.code e
  | .adcRbEb r e => [0x12] ++ encEb r.code e
  | .adcRwEw r e => [0x13] ++ encEw r.code e
  | .adcAlDb b => [0x14, b]
  | .adcAxDw w => [0x15, w.lo, w.hi]
  | .adcEbDb e b => [0x80] ++ encEb 2 e ++ [b]
  | .adcEwDw e w => [0x81] ++ encEw 2 e ++ [w.lo, w.hi]
  | .adcEwDb e b => [0x83] ++ encEw 2 e ++ [b]
  | .sbbEbRb e r => [0x18] ++ encEb r.code e
  | .sbbEwRw e r => [0x19] ++ encEw r.code e
  | .sbbRbEb r e => [0x1A] ++ encEb r.code e
  | .sbbRwEw r e => [0x1B] ++ encEw r.code e
  | .sbbAlDb b => [0x1C, b]
  | .sbbAxDw w => [0x1D, w.lo, w.hi]
  | .sbbEbDb e b => [0x80] ++ encEb 3 e ++ [b]
  | .sbbEwDw e w => [0x81] ++ encEw 3 e ++ [w.lo, w.hi]
  | .sbbEwDb e b => [0x83] ++ encEw 3 e ++ [b]
  | .andEbRb e r => [0x20] ++ encEb r.code e
  | .andEwRw e r => [0x21] ++ encEw r.code e
  | .andRbEb r e => [0x22] ++ encEb r.code e
  | .andRwEw r e => [0x23] ++ encEw r.code e
  | .andAlDb b => [0x24, b]
  | .andAxDw w => [0x25, w.lo, w.hi]
  | .andEbDb e b => [0x80] ++ encEb 4 e ++ [b]
  | .andEwDw e w => [0x81] ++ encEw 4 e ++ [w.lo, w.hi]
  | .subEbRb e r => [0x28] ++ encEb r.code e
  | .subEwRw e r => [0x29] ++ encEw r.code e
  | .subRbEb r e => [0x2A] ++ encEb r.code e
  | .subRwEw r e => [0x2B] ++ encEw r.code e
  | .subAlDb b => [0x2C, b]
  | .subAxDw w => [0x2D, w.lo, w.hi]
  | .subEbDb e b => [0x80] ++ encEb 5 e ++ [b]
  | .subEwDw e w => [0x81] ++ encEw 5 e ++ [w.lo, w.hi]
  | .subEwDb e b => [0x83] ++ encEw 5 e ++ [b]
  | .xorEbRb e r => [0x30] ++ encEb r.code e
  | .xorEwRw e r => [0x31] ++ encEw r.code e
  | .xorRbEb r e => [0x32] ++ encEb r.code e
  | .xorRwEw r e => [0x33] ++ encEw r.code e
  | .xorAlDb b => [0x34, b]
  | .xorAxDw w => [0x35, w.lo, w.hi]
  | .xorEbDb e b => [0x80] ++ encEb 6 e ++ [b]
  | .xorEwDw e w => [0x81] ++ encEw 6 e ++ [w.lo, w.hi]
  | .cmpEbRb e r => [0x38] ++ encEb r.code e
  | .cmpEwRw e r => [0x39] ++ encEw r.code e
  | .cmpRbEb r e => [0x3A] ++ encEb r.code e
  | .cmpRwEw r e => [0x3B] ++ encEw r.code e
  | .cmpAlDb b => [0x3C, b]
  | .cmpAxDw w => [0x3D, w.lo, w.hi]
  | .cmpEbDb e b => [0x80] ++ encEb 7 e ++ [b]
  | .cmpEwDw e w => [0x81] ++ encEw 7 e ++ [w.lo, w.hi]
  | .cmpEwDb e b => [0x83] ++ encEw 7 e ++ [b]
  | .ud0F b => [0x0F, b]
  | .incRw r => [0x40 + r.code.setWidth 8]
  | .decRw r => [0x48 + r.code.setWidth 8]
  | .pushRw r => [0x50 + r.code.setWidth 8]
  | .popRw r => [0x58 + r.code.setWidth 8]
  | .boundRwMd r e => [0x62] ++ encEw r.code e
  | .arplEwRw e r => [0x63] ++ encEw r.code e
  | .pushDw w => [0x68, w.lo, w.hi]
  | .imulRwEwDw r e w => [0x69] ++ encEw r.code e ++ [w.lo, w.hi]
  | .pushDb b => [0x6A, b]
  | .imulRwEwDb r e b => [0x6B] ++ encEw r.code e ++ [b]
  | .joCb b => [0x70, b]
  | .jnoCb b => [0x71, b]
  | .jbCb b => [0x72, b]
  | .jaeCb b => [0x73, b]
  | .jeCb b => [0x74, b]
  | .jneCb b => [0x75, b]
  | .jbeCb b => [0x76, b]
  | .jaCb b => [0x77, b]
  | .jsCb b => [0x78, b]
  | .jnsCb b => [0x79, b]
  | .jpCb b => [0x7A, b]
  | .jnpCb b => [0x7B, b]
  | .jlCb b => [0x7C, b]
  | .jgeCb b => [0x7D, b]
  | .jleCb b => [0x7E, b]
  | .jgCb b => [0x7F, b]
  | .testEbRb e r => [0x84] ++ encEb r.code e
  | .testEwRw e r => [0x85] ++ encEw r.code e
  | .xchgEbRb e r => [0x86] ++ encEb r.code e
  | .xchgEwRw e r => [0x87] ++ encEw r.code e
  | .movEbRb e r => [0x88] ++ encEb r.code e
  | .movEwRw e r => [0x89] ++ encEw r.code e
  | .movRbEb r e => [0x8A] ++ encEb r.code e
  | .movRwEw r e => [0x8B] ++ encEw r.code e
  | .movEwEs e => [0x8C] ++ encEw 0 e
  | .movEwCs e => [0x8C] ++ encEw 1 e
  | .movEwSs e => [0x8C] ++ encEw 2 e
  | .movEwDs e => [0x8C] ++ encEw 3 e
  | .leaRwM r e => [0x8D] ++ encEw r.code e
  | .movEsEw e => [0x8E] ++ encEw 0 e
  | .movSsEw e => [0x8E] ++ encEw 2 e
  | .movDsEw e => [0x8E] ++ encEw 3 e
  | .popMw e => [0x8F] ++ encEw 0 e
  | .xchgAxRw r => [0x90 + r.code.setWidth 8]
  | .callCd off sel => [0x9A, off.lo, off.hi, sel.lo, sel.hi]
  | .movAlXb o => [0xA0, o.lo, o.hi]
  | .movAxXw o => [0xA1, o.lo, o.hi]
  | .movXbAl o => [0xA2, o.lo, o.hi]
  | .movXwAx o => [0xA3, o.lo, o.hi]
  | .testAlDb b => [0xA8, b]
  | .testAxDw w => [0xA9, w.lo, w.hi]
  | .movRbDb r b => [0xB0 + r.code.setWidth 8, b]
  | .movRwDw r w => [0xB8 + r.code.setWidth 8, w.lo, w.hi]
  | .rolEbDb e b => [0xC0] ++ encEb 0 e ++ [b]
  | .rorEbDb e b => [0xC0] ++ encEb 1 e ++ [b]
  | .rclEbDb e b => [0xC0] ++ encEb 2 e ++ [b]
  | .rcrEbDb e b => [0xC0] ++ encEb 3 e ++ [b]
  | .salEbDb e b => [0xC0] ++ encEb 4 e ++ [b]
  | .shrEbDb e b => [0xC0] ++ encEb 5 e ++ [b]
  | .sarEbDb e b => [0xC0] ++ encEb 7 e ++ [b]
  | .rolEwDb e b => [0xC1] ++ encEw 0 e ++ [b]
  | .rorEwDb e b => [0xC1] ++ encEw 1 e ++ [b]
  | .rclEwDb e b => [0xC1] ++ encEw 2 e ++ [b]
  | .rcrEwDb e b => [0xC1] ++ encEw 3 e ++ [b]
  | .salEwDb e b => [0xC1] ++ encEw 4 e ++ [b]
  | .shrEwDb e b => [0xC1] ++ encEw 5 e ++ [b]
  | .sarEwDb e b => [0xC1] ++ encEw 7 e ++ [b]
  | .rolEb1 e => [0xD0] ++ encEb 0 e
  | .rorEb1 e => [0xD0] ++ encEb 1 e
  | .rclEb1 e => [0xD0] ++ encEb 2 e
  | .rcrEb1 e => [0xD0] ++ encEb 3 e
  | .salEb1 e => [0xD0] ++ encEb 4 e
  | .shrEb1 e => [0xD0] ++ encEb 5 e
  | .sarEb1 e => [0xD0] ++ encEb 7 e
  | .rolEw1 e => [0xD1] ++ encEw 0 e
  | .rorEw1 e => [0xD1] ++ encEw 1 e
  | .rclEw1 e => [0xD1] ++ encEw 2 e
  | .rcrEw1 e => [0xD1] ++ encEw 3 e
  | .salEw1 e => [0xD1] ++ encEw 4 e
  | .shrEw1 e => [0xD1] ++ encEw 5 e
  | .sarEw1 e => [0xD1] ++ encEw 7 e
  | .rolEbCl e => [0xD2] ++ encEb 0 e
  | .rorEbCl e => [0xD2] ++ encEb 1 e
  | .rclEbCl e => [0xD2] ++ encEb 2 e
  | .rcrEbCl e => [0xD2] ++ encEb 3 e
  | .salEbCl e => [0xD2] ++ encEb 4 e
  | .shrEbCl e => [0xD2] ++ encEb 5 e
  | .sarEbCl e => [0xD2] ++ encEb 7 e
  | .rolEwCl e => [0xD3] ++ encEw 0 e
  | .rorEwCl e => [0xD3] ++ encEw 1 e
  | .rclEwCl e => [0xD3] ++ encEw 2 e
  | .rcrEwCl e => [0xD3] ++ encEw 3 e
  | .salEwCl e => [0xD3] ++ encEw 4 e
  | .shrEwCl e => [0xD3] ++ encEw 5 e
  | .sarEwCl e => [0xD3] ++ encEw 7 e
  | .retNearDw w => [0xC2, w.lo, w.hi]
  | .lesRwEd r e => [0xC4] ++ encEw r.code e
  | .ldsRwEd r e => [0xC5] ++ encEw r.code e
  | .movEbDb e b => [0xC6] ++ encEb 0 e ++ [b]
  | .movEwDw e w => [0xC7] ++ encEw 0 e ++ [w.lo, w.hi]
  | .enterDwDb w b => [0xC8, w.lo, w.hi, b]
  | .retFarDw w => [0xCA, w.lo, w.hi]
  | .intDb b => [0xCD, b]
  | .esc op e => [0xD8 + (op.extractLsb' 3 3).setWidth 8] ++ encEw (op.extractLsb' 0 3) e
  | .loopneCb b => [0xE0, b]
  | .loopeCb b => [0xE1, b]
  | .loopCb b => [0xE2, b]
  | .jcxzCb b => [0xE3, b]
  | .inAlDb b => [0xE4, b]
  | .inAxDb b => [0xE5, b]
  | .outDbAl b => [0xE6, b]
  | .outDbAx b => [0xE7, b]
  | .callCw w => [0xE8, w.lo, w.hi]
  | .jmpCw w => [0xE9, w.lo, w.hi]
  | .jmpCd off sel => [0xEA, off.lo, off.hi, sel.lo, sel.hi]
  | .jmpCb b => [0xEB, b]
  | .testEbDb e b => [0xF6] ++ encEb 0 e ++ [b]
  | .notEb e => [0xF6] ++ encEb 2 e
  | .negEb e => [0xF6] ++ encEb 3 e
  | .mulEb e => [0xF6] ++ encEb 4 e
  | .imulEb e => [0xF6] ++ encEb 5 e
  | .divEb e => [0xF6] ++ encEb 6 e
  | .idivEb e => [0xF6] ++ encEb 7 e
  | .testEwDw e w => [0xF7] ++ encEw 0 e ++ [w.lo, w.hi]
  | .notEw e => [0xF7] ++ encEw 2 e
  | .negEw e => [0xF7] ++ encEw 3 e
  | .mulEw e => [0xF7] ++ encEw 4 e
  | .imulEw e => [0xF7] ++ encEw 5 e
  | .divEw e => [0xF7] ++ encEw 6 e
  | .idivEw e => [0xF7] ++ encEw 7 e
  | .incEb e => [0xFE] ++ encEb 0 e
  | .decEb e => [0xFE] ++ encEb 1 e
  | .incEw e => [0xFF] ++ encEw 0 e
  | .decEw e => [0xFF] ++ encEw 1 e
  | .callEw e => [0xFF] ++ encEw 2 e
  | .callEd e => [0xFF] ++ encEw 3 e
  | .jmpEw e => [0xFF] ++ encEw 4 e
  | .jmpMd e => [0xFF] ++ encEw 5 e
  | .pushMw e => [0xFF] ++ encEw 6 e
  | .sldtEw e => [0x0F, 0x00] ++ encEw 0 e
  | .strEw e => [0x0F, 0x00] ++ encEw 1 e
  | .lldtEw e => [0x0F, 0x00] ++ encEw 2 e
  | .ltrEw e => [0x0F, 0x00] ++ encEw 3 e
  | .verrEw e => [0x0F, 0x00] ++ encEw 4 e
  | .verwEw e => [0x0F, 0x00] ++ encEw 5 e
  | .sgdtM e => [0x0F, 0x01] ++ encEw 0 e
  | .sidtM e => [0x0F, 0x01] ++ encEw 1 e
  | .lgdtM e => [0x0F, 0x01] ++ encEw 2 e
  | .lidtM e => [0x0F, 0x01] ++ encEw 3 e
  | .smswEw e => [0x0F, 0x01] ++ encEw 4 e
  | .lmswEw e => [0x0F, 0x01] ++ encEw 6 e
  | .larRwEw r e => [0x0F, 0x02] ++ encEw r.code e
  | .lslRwEw r e => [0x0F, 0x03] ++ encEw r.code e
  | .ud83_1 => [0x83, modRMByte 3 1 0, 0x00]
  | .ud83_4 => [0x83, modRMByte 3 4 0, 0x00]
  | .ud83_6 => [0x83, modRMByte 3 6 0, 0x00]
  | .daa => [0x27]
  | .das => [0x2F]
  | .aaa => [0x37]
  | .aas => [0x3F]
  | .aam => [0xD4, 0x0A]
  | .aad => [0xD5, 0x0A]
  | .pushEs => [0x06]
  | .pushCs => [0x0E]
  | .pushSs => [0x16]
  | .pushDs => [0x1E]
  | .popEs => [0x07]
  | .popSs => [0x17]
  | .popDs => [0x1F]
  | .segEs => [0x26]
  | .segCs => [0x2E]
  | .segSs => [0x36]
  | .segDs => [0x3E]
  | .lock => [0xF0]
  | .repne => [0xF2]
  | .rep => [0xF3]
  | .pusha => [0x60]
  | .popa => [0x61]
  | .ud64 => [0x64]
  | .ud65 => [0x65]
  | .ud66 => [0x66]
  | .ud67 => [0x67]
  | .insb => [0x6C]
  | .insw => [0x6D]
  | .outsb => [0x6E]
  | .outsw => [0x6F]
  | .ud82 => [0x82]
  | .ud8C_4 => [0x8C, modRMByte 3 4 0]
  | .ud8C_5 => [0x8C, modRMByte 3 5 0]
  | .ud8C_6 => [0x8C, modRMByte 3 6 0]
  | .ud8C_7 => [0x8C, modRMByte 3 7 0]
  | .ud8E_1 => [0x8E, modRMByte 3 1 0]
  | .ud8E_4 => [0x8E, modRMByte 3 4 0]
  | .ud8E_5 => [0x8E, modRMByte 3 5 0]
  | .ud8E_6 => [0x8E, modRMByte 3 6 0]
  | .ud8E_7 => [0x8E, modRMByte 3 7 0]
  | .gp8F_1 => [0x8F, modRMByte 3 1 0]
  | .gp8F_2 => [0x8F, modRMByte 3 2 0]
  | .gp8F_3 => [0x8F, modRMByte 3 3 0]
  | .gp8F_4 => [0x8F, modRMByte 3 4 0]
  | .gp8F_5 => [0x8F, modRMByte 3 5 0]
  | .gp8F_6 => [0x8F, modRMByte 3 6 0]
  | .gp8F_7 => [0x8F, modRMByte 3 7 0]
  | .nop => [0x90]
  | .cbw => [0x98]
  | .cwd => [0x99]
  | .wait => [0x9B]
  | .pushf => [0x9C]
  | .popf => [0x9D]
  | .sahf => [0x9E]
  | .lahf => [0x9F]
  | .movsb => [0xA4]
  | .movsw => [0xA5]
  | .cmpsb => [0xA6]
  | .cmpsw => [0xA7]
  | .stosb => [0xAA]
  | .stosw => [0xAB]
  | .lodsb => [0xAC]
  | .lodsw => [0xAD]
  | .scasb => [0xAE]
  | .scasw => [0xAF]
  | .udC0_6 => [0xC0, modRMByte 3 6 0, 0x00]
  | .udC1_6 => [0xC1, modRMByte 3 6 0, 0x00]
  | .udD0_6 => [0xD0, modRMByte 3 6 0]
  | .udD1_6 => [0xD1, modRMByte 3 6 0]
  | .udD2_6 => [0xD2, modRMByte 3 6 0]
  | .udD3_6 => [0xD3, modRMByte 3 6 0]
  | .retNear => [0xC3]
  | .udC6_1 => [0xC6, modRMByte 3 1 0]
  | .udC6_2 => [0xC6, modRMByte 3 2 0]
  | .udC6_3 => [0xC6, modRMByte 3 3 0]
  | .udC6_4 => [0xC6, modRMByte 3 4 0]
  | .udC6_5 => [0xC6, modRMByte 3 5 0]
  | .udC6_6 => [0xC6, modRMByte 3 6 0]
  | .udC6_7 => [0xC6, modRMByte 3 7 0]
  | .udC7_1 => [0xC7, modRMByte 3 1 0]
  | .udC7_2 => [0xC7, modRMByte 3 2 0]
  | .udC7_3 => [0xC7, modRMByte 3 3 0]
  | .udC7_4 => [0xC7, modRMByte 3 4 0]
  | .udC7_5 => [0xC7, modRMByte 3 5 0]
  | .udC7_6 => [0xC7, modRMByte 3 6 0]
  | .udC7_7 => [0xC7, modRMByte 3 7 0]
  | .leave => [0xC9]
  | .retFar => [0xCB]
  | .int3 => [0xCC]
  | .into => [0xCE]
  | .iret => [0xCF]
  | .udD6 => [0xD6]
  | .xlatb => [0xD7]
  | .inAlDx => [0xEC]
  | .inAxDx => [0xED]
  | .outDxAl => [0xEE]
  | .outDxAx => [0xEF]
  | .udF1 => [0xF1]
  | .hlt => [0xF4]
  | .cmc => [0xF5]
  | .udF6_1 => [0xF6, modRMByte 3 1 0]
  | .udF7_1 => [0xF7, modRMByte 3 1 0]
  | .clc => [0xF8]
  | .stc => [0xF9]
  | .cli => [0xFA]
  | .sti => [0xFB]
  | .cld => [0xFC]
  | .std => [0xFD]
  | .udFE_2 => [0xFE, modRMByte 3 2 0]
  | .udFE_3 => [0xFE, modRMByte 3 3 0]
  | .udFE_4 => [0xFE, modRMByte 3 4 0]
  | .udFE_5 => [0xFE, modRMByte 3 5 0]
  | .udFE_6 => [0xFE, modRMByte 3 6 0]
  | .udFE_7 => [0xFE, modRMByte 3 7 0]
  | .gpFF_7 => [0xFF, modRMByte 3 7 0]
  | .ud0F00_6 => [0x0F, 0x00, modRMByte 3 6 0]
  | .ud0F00_7 => [0x0F, 0x00, modRMByte 3 7 0]
  | .ud0F01_5 => [0x0F, 0x01, modRMByte 3 5 0]
  | .ud0F01_7 => [0x0F, 0x01, modRMByte 3 7 0]
  | .clts => [0x0F, 0x06]
  | .repInsb => [0xF3, 0x6C]
  | .repInsw => [0xF3, 0x6D]
  | .repMovsb => [0xF3, 0xA4]
  | .repMovsw => [0xF3, 0xA5]
  | .repOutsb => [0xF3, 0x6E]
  | .repOutsw => [0xF3, 0x6F]
  | .repStosb => [0xF3, 0xAA]
  | .repStosw => [0xF3, 0xAB]
  | .repLodsb => [0xF3, 0xAC]
  | .repLodsw => [0xF3, 0xAD]
  | .repeCmpsb => [0xF3, 0xA6]
  | .repeCmpsw => [0xF3, 0xA7]
  | .repeScasb => [0xF3, 0xAE]
  | .repeScasw => [0xF3, 0xAF]
  | .repneCmpsb => [0xF2, 0xA6]
  | .repneCmpsw => [0xF2, 0xA7]
  | .repneScasb => [0xF2, 0xAE]
  | .repneScasw => [0xF2, 0xAF]

/-! ### The host's entry points -/

/-- The first `k` bytes of a number, the least significant first: the numbering of spec/opcode_table.json. -/
def bytesLE : Nat → Nat → List Byte
  | 0, _ => []
  | k + 1, w => BitVec.ofNat 8 w :: bytesLE k (w / 256)

/-- The bytes of an instruction whose table bits are `w` (`nbits` of them): those bits, then zeros up to twelve
bytes, more than the longest instruction (30 R263). -/
def tableBytes (nbits w : Nat) : List Byte := bytesLE 12 (w % 2 ^ nbits)

/-- The instruction the decoder reads from the word `w` of `nbits` bits, every bit above them zero. -/
def decodeTableWord (nbits w : Nat) : Option Instr :=
  match decode (tableBytes nbits w) with
  | .ok (i, _) => some i
  | .error _ => none

end Sys2Proof
end

