-- ==== Sys2Proof/Machine/State.lean ====
section
/-!
DEFINITION. The state of the iAPX 286 as plain data (10 R90), its environment (00 R8) as plain data beside it, and
the state after RESET (70 R870). INVENTORY.md, "State", lists each field with the rule that names it.
-/

namespace Sys2Proof.Machine

/-- Why the model stops. No instruction and no step of this model raises a fault: every exception of the 80286 is a
NEXT state. -/
inductive Fault where
  /-- Raised by nothing. Safe. -/
  | impossible
  deriving DecidableEq, Repr

/-- What the model gives no meaning. -/
inductive Refusal where
  /-- An instruction that is in no arm of `exec` yet; no arm uses it. Safe. -/
  | notModelled (mnemonic : String)
  /-- D4H with a second byte other than 0AH, refused by 93 U3; raised by `step`. Safe. -/
  | aamBase (b : Byte)
  /-- D5H with a second byte other than 0AH, refused by 93 U3; raised by `step`. Safe. -/
  | aadBase (b : Byte)
  deriving DecidableEq, Repr

/-- The eight general registers (10 R40). -/
structure Regs where
  ax : Word
  cx : Word
  dx : Word
  bx : Word
  sp : Word
  bp : Word
  si : Word
  di : Word
  deriving DecidableEq, Repr

/-- FLAGS (10 R47), field by field: `ief` is IF. Bits 15, 5, 3 read 0 and bit 1 reads 1 (10 R51, 92 D7; log 24). -/
structure Flags where
  cf : Bool
  pf : Bool
  af : Bool
  zf : Bool
  sf : Bool
  tf : Bool
  ief : Bool
  df : Bool
  of : Bool
  iopl : BitVec 2
  nt : Bool
  deriving DecidableEq, Repr

/-- The machine status word (10 R60), field by field. Bits 15-4 read 1 (92 D8; log 24). -/
structure Msw where
  pe : Bool
  mp : Bool
  em : Bool
  ts : Bool
  deriving DecidableEq, Repr

/-- A segment register: the visible selector, its descriptor cache, and the spec's `valid` (10 R52, R57). -/
structure Seg where
  sel : Word
  base : Addr
  limit : Word
  access : Byte
  valid : Bool
  deriving DecidableEq, Repr

/-- GDTR and IDTR (10 R64, R66). -/
structure TableReg where
  base : Addr
  limit : Word
  deriving DecidableEq, Repr

/-- LDTR and TR (10 R65, R67; 47 R690 for `TR.valid`). -/
structure SysSeg where
  sel : Word
  base : Addr
  limit : Word
  valid : Bool
  deriving DecidableEq, Repr

/-- The one-instruction interrupt inhibit (10 R72). -/
inductive Inhibit where
  | none | ss | sti
  deriving DecidableEq, Repr

/-- The run state (10 R74). -/
inductive RunState where
  | running | halted | shutdown | reset
  deriving DecidableEq, Repr

/-- A repeat prefix: F3 or F2 (30 R262). -/
inductive Rep where
  | repe | repne
  deriving DecidableEq, Repr

/-- The decoder's variables of the instruction in progress (30 R290): the last segment override, the last repeat
prefix, whether LOCK stands before it, and how many bytes have been consumed. Empty between two steps (log 10). -/
structure Cur where
  seg : Option SReg
  rep : Option Rep
  lock : Bool
  len : Nat
  deriving DecidableEq, Repr

/-- No prefix, no byte consumed. -/
def Cur.empty : Cur := { seg := none, rep := none, lock := false, len := 0 }

/-- The operand that the last ESC left for the transfers of 45 R598: the segment's cache as it was, the offset of the
next word (not reduced modulo 2^16), and the ESC's opcode bits (log 20, 21). -/
structure ExtOperand where
  seg : Seg
  off : Nat
  op : BitVec 6
  deriving DecidableEq, Repr

/-- What the instruction at IP waits for, between two steps (log 19, 41). -/
inductive Waiting where
  /-- Nothing. -/
  | none
  /-- A WAIT for BUSY: the events of the boundary are accepted (60 R794). -/
  | wait
  /-- An ESC for an extension that waits for data after an overrun: no event is accepted (45 R598; 60 R794). -/
  | esc
  deriving DecidableEq, Repr

/-- The processor extension as the CPU sees it (00 R8 `ExtPresent`, 92 D3; log 19, 20, 21). -/
structure Ext where
  /-- An extension is attached. -/
  present : Bool
  /-- How many more samples find BUSY active. -/
  busyFor : Nat
  /-- The ERROR pin is active. -/
  error : Bool
  /-- Operand transfers requested on PEREQ and not yet made. -/
  pereq : Nat
  /-- `EscNoErrorTest`: the ESC opcodes that test neither BUSY nor ERROR. -/
  noErrorTest : List (BitVec 6)
  /-- Which ESCs, by opcode and operand, are FNINIT: part of `EscNoErrorTest`, the spec gives no opcode (92 D3; log 41). -/
  fninit : List (BitVec 6 × Ew)
  /-- After an overrun the extension stays busy waiting for data, until FNINIT or its own reset (45 R598; log 41). -/
  held : Bool
  deriving DecidableEq, Repr

/-- The environment of the CPU, held as plain data (00 R8; logs 6, 7, 18, 19, 23). -/
structure Env where
  /-- The vectors waiting at the INTR pin, oldest first: INTR is active while there is one (60 R792). -/
  intr : List Byte
  /-- The RESET pin (70 R871). -/
  reset : Bool
  /-- The system ignores A23-A20 in Real Address Mode (20 R104, 92 D5). -/
  a20Mask : Bool
  /-- Regions (first address, size) that ignore writes: ROM and unpopulated addresses (92 D1). -/
  rom : List (Nat × Nat)
  /-- The processor extension. -/
  ext : Ext
  deriving DecidableEq, Repr

/-- The whole machine (10 R90) with its environment. -/
structure State where
  regs : Regs
  ip : Word
  /-- The last sequential instruction ended at offset FFFFH: IP reads 0000H, and the next instruction lies past the end
  of the segment (10 R45, R46; 20 R114; log 40). -/
  pastEnd : Bool
  flags : Flags
  msw : Msw
  cs : Seg
  ss : Seg
  ds : Seg
  es : Seg
  gdtr : TableReg
  idtr : TableReg
  ldtr : SysSeg
  tr : SysSeg
  nmiPending : Bool
  nmiMasked : Bool
  peOverrun : Bool
  intInhibit : Inhibit
  tfAtStart : Bool
  run : RunState
  cur : Cur
  waiting : Waiting
  extOp : Option ExtOperand
  mem : List Host.Cell
  ioLog : List IoCycle
  env : Env
  draw : Nat
  deriving DecidableEq, Repr

/-- The general registers after RESET: the spec gives none; DESIGN CHOICE 0 (10 R90, 93 U2; log 1). -/
def Regs.zero : Regs := { ax := 0, cx := 0, dx := 0, bx := 0, sp := 0, bp := 0, si := 0, di := 0 }

/-- FLAGS after RESET: 0002H (10 R90). -/
def Flags.reset : Flags :=
  { cf := false, pf := false, af := false, zf := false, sf := false, tf := false, ief := false, df := false,
    of := false, iopl := 0, nt := false }

/-- The access byte of a segment cache loaded in Real Address Mode, 93H (92 D16; log 5). -/
def realAccess : Byte := 0x93

/-- CS after RESET (70 R870). -/
def Seg.resetCs : Seg := { sel := 0xF000, base := 0xFF0000, limit := 0xFFFF, access := realAccess, valid := true }

/-- DS, ES, SS after RESET (70 R870). -/
def Seg.resetData : Seg := { sel := 0, base := 0, limit := 0xFFFF, access := realAccess, valid := true }

/-- LDTR and TR after RESET: DESIGN CHOICE, zero and not valid (10 R90; logs 3, 4). -/
def SysSeg.none : SysSeg := { sel := 0, base := 0, limit := 0, valid := false }

/-- The environment's default instances (92 D1, D3, D4, D5). -/
def Env.default : Env :=
  { intr := [], reset := false, a20Mask := true, rom := [],
    ext := { present := false, busyFor := 0, error := false, pereq := 0, noErrorTest := [], fninit := [], held := false } }

/-- The machine right after RESET (70 R870): every register at the value the spec states, or at the value a log
names; no ESC operand is outstanding (DESIGN CHOICE, log 23); memory lists nothing. -/
def State.reset : State :=
  { regs := Regs.zero, ip := 0xFFF0, pastEnd := false, flags := Flags.reset,
    msw := { pe := false, mp := false, em := false, ts := false },
    cs := Seg.resetCs, ss := Seg.resetData, ds := Seg.resetData, es := Seg.resetData,
    gdtr := { base := 0, limit := 0 }, idtr := { base := 0, limit := 0x03FF },
    ldtr := SysSeg.none, tr := SysSeg.none,
    nmiPending := false, nmiMasked := false, peOverrun := false,
    intInhibit := .none, tfAtStart := false, run := .running,
    cur := Cur.empty, waiting := .none, extOp := none,
    mem := [], ioLog := [], env := Env.default, draw := 0 }

end Sys2Proof.Machine
end

