-- ==== Sys2Proof/Machine/Flags.lean ====
section
/-!
DEFINITION. FLAGS as a word (10 R47, R51), and every flag and result computation of the spec: addition and
subtraction (41 R380), multiplication and division (41 R390-R394), decimal adjustment (41 R400-R405), logic
(42 R440), shifts and rotates (42 R448-R456), and the loading of FLAGS from a word (45 R578, R581). `d` is the number
of the draw that supplies the undefined flags (93 U1; log 12).
-/

namespace Sys2Proof.Machine

/-! ### FLAGS and MSW as words -/

/-- A bit as a one-bit vector. -/
def bit (b : Bool) : BitVec 1 := BitVec.ofBool b

/-- FLAGS as PUSHF stores it (10 R47, R51): bits 15, 5, 3 are 0 and bit 1 is 1. -/
def Flags.toWord (f : Flags) : Word :=
  0#1 ++ bit f.nt ++ f.iopl ++ bit f.of ++ bit f.df ++ bit f.ief ++ bit f.tf ++ bit f.sf ++ bit f.zf ++ 0#1 ++
    bit f.af ++ 0#1 ++ bit f.pf ++ 1#1 ++ bit f.cf

/-- FLAGS with every field of a word (47 R694 step 7): bits 15, 5, 3, 1 are ignored. -/
def Flags.ofWord (w : Word) : Flags :=
  { cf := w.getLsbD 0, pf := w.getLsbD 2, af := w.getLsbD 4, zf := w.getLsbD 6, sf := w.getLsbD 7,
    tf := w.getLsbD 8, ief := w.getLsbD 9, df := w.getLsbD 10, of := w.getLsbD 11,
    iopl := w.extractLsb' 12 2, nt := w.getLsbD 14 }

/-- FLAGS after POPF or IRET of `w` in Real Address Mode: IOPL and NT keep their value, 0 (45 R581, 10 R50). -/
def Flags.loadReal (f : Flags) (w : Word) : Flags :=
  { Flags.ofWord w with iopl := f.iopl, nt := f.nt }

/-- FLAGS after POPF or IRET of `w` at privilege level `cpl` in Protected Mode (45 R581): IOPL is loaded at level 0
only, IF only when `cpl ≤ IOPL`. -/
def Flags.loadProt (f : Flags) (cpl : BitVec 2) (w : Word) : Flags :=
  { Flags.ofWord w with
    iopl := if cpl = 0 then w.extractLsb' 12 2 else f.iopl
    ief := if cpl.toNat ≤ f.iopl.toNat then w.getLsbD 9 else f.ief }

/-- SAHF (45 R578): SF, ZF, AF, PF, CF from bits 7, 6, 4, 2, 0. -/
def Flags.loadLow (f : Flags) (b : Byte) : Flags :=
  { f with sf := b.getLsbD 7, zf := b.getLsbD 6, af := b.getLsbD 4, pf := b.getLsbD 2, cf := b.getLsbD 0 }

/-- MSW as SMSW stores it (10 R60): bits 15-4 are 1. -/
def Msw.toWord (m : Msw) : Word := 0xFFF#12 ++ bit m.ts ++ bit m.em ++ bit m.mp ++ bit m.pe

/-- MSW after LMSW of `w` (48 R727): PE can be set and not cleared; bits 15-4 are ignored. -/
def Msw.load (m : Msw) (w : Word) : Msw :=
  { pe := m.pe || w.getLsbD 0, mp := w.getLsbD 1, em := w.getLsbD 2, ts := w.getLsbD 3 }

/-! ### Sign, zero and parity of a result (10 R48) -/

/-- An even number of 1 bits in a byte. -/
def evenParity (b : Byte) : Bool :=
  !(b.getLsbD 0 ^^ b.getLsbD 1 ^^ b.getLsbD 2 ^^ b.getLsbD 3 ^^ b.getLsbD 4 ^^ b.getLsbD 5 ^^ b.getLsbD 6 ^^
    b.getLsbD 7)

/-- SF, ZF and PF from a result; PF counts the low eight bits only. -/
def Flags.szp {n : Nat} (f : Flags) (r : BitVec n) : Flags :=
  { f with sf := r.msb, zf := r == 0, pf := evenParity (r.setWidth 8) }

/-! ### Addition and subtraction (41 R380) -/

/-- `Add(a, b, c, N)`: the result, and FLAGS with OF, SF, ZF, AF, PF, CF written. -/
def addF {n : Nat} (a b : BitVec n) (c : Bool) (f : Flags) : BitVec n × Flags :=
  let sum := a.toNat + b.toNat + c.toNat
  let r := BitVec.ofNat n sum
  (r, { f.szp r with
        cf := decide (2 ^ n ≤ sum)
        af := decide (16 ≤ a.toNat % 16 + b.toNat % 16 + c.toNat)
        of := (a.msb == b.msb) && (r.msb != a.msb) })

/-- `Sub(a, b, c, N)`: the result, and FLAGS with OF, SF, ZF, AF, PF, CF written. -/
def subF {n : Nat} (a b : BitVec n) (c : Bool) (f : Flags) : BitVec n × Flags :=
  let r := a - b - BitVec.ofNat n c.toNat
  (r, { f.szp r with
        cf := decide (a.toNat < b.toNat + c.toNat)
        af := decide (a.toNat % 16 < b.toNat % 16 + c.toNat)
        of := (a.msb != b.msb) && (r.msb != a.msb) })

/-- INC (41 R386): `Add(a, 1, 0, N)` with CF kept. -/
def incF {n : Nat} (a : BitVec n) (f : Flags) : BitVec n × Flags :=
  let x := addF a 1 false f
  (x.1, { x.2 with cf := f.cf })

/-- DEC (41 R387): `Sub(a, 1, 0, N)` with CF kept. -/
def decF {n : Nat} (a : BitVec n) (f : Flags) : BitVec n × Flags :=
  let x := subF a 1 false f
  (x.1, { x.2 with cf := f.cf })

/-- NEG (41 R388): `Sub(0, a, 0, N)`. -/
def negF {n : Nat} (a : BitVec n) (f : Flags) : BitVec n × Flags := subF 0 a false f

/-! ### Logic (42 R440) -/

/-- FLAGS after AND, OR, XOR, TEST with result `r`: OF and CF clear, SF, ZF, PF from `r`, AF undefined. -/
def logicF {n : Nat} (d : Nat) (r : BitVec n) (f : Flags) : Flags :=
  { f.szp r with of := false, cf := false, af := Config.freeFlag d .af }

/-! ### Shifts and rotates (42 R448-R456) -/

/-- The top bit alone. -/
def topBit {n : Nat} (b : Bool) : BitVec n := if b then BitVec.twoPow n (n - 1) else 0

/-- The bottom bit alone. -/
def lowBit {n : Nat} (b : Bool) : BitVec n := BitVec.ofNat n b.toNat

/-- One step of ROL (42 R450) on the operand and CF. -/
def rolStep {n : Nat} (p : BitVec n × Bool) : BitVec n × Bool :=
  ((p.1 <<< 1) + lowBit p.1.msb, p.1.msb)

/-- One step of ROR (42 R451). -/
def rorStep {n : Nat} (p : BitVec n × Bool) : BitVec n × Bool :=
  ((p.1 >>> 1) + topBit (p.1.getLsbD 0), p.1.getLsbD 0)

/-- One step of RCL (42 R452). -/
def rclStep {n : Nat} (p : BitVec n × Bool) : BitVec n × Bool :=
  ((p.1 <<< 1) + lowBit p.2, p.1.msb)

/-- One step of RCR (42 R453). -/
def rcrStep {n : Nat} (p : BitVec n × Bool) : BitVec n × Bool :=
  ((p.1 >>> 1) + topBit p.2, p.1.getLsbD 0)

/-- One step of SAL (42 R454). -/
def salStep {n : Nat} (p : BitVec n × Bool) : BitVec n × Bool := (p.1 <<< 1, p.1.msb)

/-- One step of SHR (42 R455). -/
def shrStep {n : Nat} (p : BitVec n × Bool) : BitVec n × Bool := (p.1 >>> 1, p.1.getLsbD 0)

/-- One step of SAR (42 R456). -/
def sarStep {n : Nat} (p : BitVec n × Bool) : BitVec n × Bool :=
  ((p.1 >>> 1) + topBit p.1.msb, p.1.getLsbD 0)

/-- A rotate by `count` (already masked to five bits): only CF and OF change; OF is `one` for a count of 1 and
undefined for more; a count of 0 changes nothing (42 R449). `one` is given the old pair and the new one. -/
def rotateF {n : Nat} (stp : BitVec n × Bool → BitVec n × Bool) (one : BitVec n × Bool → BitVec n × Bool → Bool)
    (count d : Nat) (x : BitVec n) (f : Flags) : BitVec n × Flags :=
  if count = 0 then (x, f)
  else
    let y := Nat.repeat stp count (x, f.cf)
    (y.1, { f with cf := y.2, of := if count = 1 then one (x, f.cf) y else Config.freeFlag d .of })

/-- A shift by `count` (already masked to five bits): CF, SF, ZF, PF written, AF undefined, OF as for a rotate. -/
def shiftF {n : Nat} (stp : BitVec n × Bool → BitVec n × Bool) (one : BitVec n × Bool → BitVec n × Bool → Bool)
    (count d : Nat) (x : BitVec n) (f : Flags) : BitVec n × Flags :=
  if count = 0 then (x, f)
  else
    let y := Nat.repeat stp count (x, f.cf)
    (y.1, { f.szp y.1 with
            cf := y.2
            af := Config.freeFlag d .af
            of := if count = 1 then one (x, f.cf) y else Config.freeFlag d .of })

/-- ROL: OF of a single rotate is CF xor the new top bit (42 R450). -/
def rolF {n : Nat} (count d : Nat) (x : BitVec n) (f : Flags) : BitVec n × Flags :=
  rotateF rolStep (fun _ y => y.2 ^^ y.1.msb) count d x f

/-- ROR: OF of a single rotate is the change of the top bit (42 R451). -/
def rorF {n : Nat} (count d : Nat) (x : BitVec n) (f : Flags) : BitVec n × Flags :=
  rotateF rorStep (fun o y => y.1.msb ^^ o.1.msb) count d x f

/-- RCL: OF of a single rotate is CF xor the new top bit (42 R452). -/
def rclF {n : Nat} (count d : Nat) (x : BitVec n) (f : Flags) : BitVec n × Flags :=
  rotateF rclStep (fun _ y => y.2 ^^ y.1.msb) count d x f

/-- RCR: OF of a single rotate is the old CF xor the old top bit (42 R453). -/
def rcrF {n : Nat} (count d : Nat) (x : BitVec n) (f : Flags) : BitVec n × Flags :=
  rotateF rcrStep (fun o _ => o.2 ^^ o.1.msb) count d x f

/-- SAL = SHL: OF of a single shift is the new top bit xor CF (42 R454). -/
def salF {n : Nat} (count d : Nat) (x : BitVec n) (f : Flags) : BitVec n × Flags :=
  shiftF salStep (fun _ y => y.1.msb ^^ y.2) count d x f

/-- SHR: OF of a single shift is the old top bit (42 R455). -/
def shrF {n : Nat} (count d : Nat) (x : BitVec n) (f : Flags) : BitVec n × Flags :=
  shiftF shrStep (fun o _ => o.1.msb) count d x f

/-- SAR: OF of a single shift is 0 (42 R456). -/
def sarF {n : Nat} (count d : Nat) (x : BitVec n) (f : Flags) : BitVec n × Flags :=
  shiftF sarStep (fun _ _ => false) count d x f

/-- The count of a shift or rotate by CL or by an immediate: its low five bits (42 R448). -/
def maskCount (b : Byte) : Nat := b.toNat % 32

/-! ### Multiplication and division (41 R390-R394) -/

/-- FLAGS after a multiplication: CF and OF are `big`, SF, ZF, AF, PF undefined (93 U1). -/
def mulFlags (d : Nat) (big : Bool) (f : Flags) : Flags :=
  { f with cf := big, of := big, sf := Config.freeFlag d .sf, zf := Config.freeFlag d .zf,
           af := Config.freeFlag d .af, pf := Config.freeFlag d .pf }

/-- MUL eb: AX (41 R390). -/
def mul8 (d : Nat) (al b : Byte) (f : Flags) : Word × Flags :=
  let p := BitVec.ofNat 16 (al.toNat * b.toNat)
  (p, mulFlags d (Word.hi p != 0) f)

/-- MUL ew: DX and AX (41 R390). -/
def mul16 (d : Nat) (ax b : Word) (f : Flags) : (Word × Word) × Flags :=
  let p := BitVec.ofNat 32 (ax.toNat * b.toNat)
  let hi := p.extractLsb' 16 16
  ((hi, p.extractLsb' 0 16), mulFlags d (hi != 0) f)

/-- IMUL eb: AX (41 R391). -/
def imul8 (d : Nat) (al b : Byte) (f : Flags) : Word × Flags :=
  let p := BitVec.ofInt 16 (al.toInt * b.toInt)
  (p, mulFlags d (p != sext16 (Word.lo p)) f)

/-- IMUL ew: DX and AX (41 R391). -/
def imul16 (d : Nat) (ax b : Word) (f : Flags) : (Word × Word) × Flags :=
  let p := BitVec.ofInt 32 (ax.toInt * b.toInt)
  let lo : Word := p.extractLsb' 0 16
  ((p.extractLsb' 16 16, lo), mulFlags d (p != lo.signExtend 32) f)

/-- IMUL with an immediate: the destination register (41 R392). -/
def imul3 (d : Nat) (a b : Word) (f : Flags) : Word × Flags :=
  let p := a.toInt * b.toInt
  (BitVec.ofInt 16 p, mulFlags d (!(decide (-32768 ≤ p) && decide (p ≤ 32767))) f)

/-- FLAGS after a completed division: the six status flags undefined (41 R393, R394, 93 U1). -/
def divFlags (d : Nat) (f : Flags) : Flags :=
  { f with cf := Config.freeFlag d .cf, of := Config.freeFlag d .of, sf := Config.freeFlag d .sf,
           zf := Config.freeFlag d .zf, af := Config.freeFlag d .af, pf := Config.freeFlag d .pf }

/-- DIV of `n` by `m` with a quotient and remainder of `w` bits: `none` is Interrupt 0 (41 R393). -/
def divU (w n m : Nat) : Option (BitVec w × BitVec w) :=
  if m = 0 then none
  else if 2 ^ w ≤ n / m then none
  else some (BitVec.ofNat w (n / m), BitVec.ofNat w (n % m))

/-- IDIV of `n` by `m` with a quotient and remainder of `w` bits: truncation toward 0, the remainder with the sign of
the dividend; `none` is Interrupt 0 (41 R394). -/
def divS (w : Nat) (n m : Int) : Option (BitVec w × BitVec w) :=
  if m = 0 then none
  else if n.tdiv m < -(2 ^ (w - 1)) ∨ 2 ^ (w - 1) ≤ n.tdiv m then none
  else some (BitVec.ofInt w (n.tdiv m), BitVec.ofInt w (n.tmod m))

/-! ### Decimal adjustment (41 R400-R405) -/

/-- The test that DAA, DAS, AAA and AAS make on the low four bits of AL (41 R400-R403). -/
def lowDigitOut (al : Byte) (f : Flags) : Bool := decide (9 < al.toNat % 16) || f.af

/-- DAA: AL and FLAGS (41 R400). -/
def daaF (d : Nat) (al : Byte) (f : Flags) : Byte × Flags :=
  let lowOut := lowDigitOut al f
  let al1 := if lowOut then al + 6 else al
  let highOut := decide (0x9F < al1.toNat) || f.cf
  let al2 := if highOut then al1 + 0x60 else al1
  (al2, { f.szp al2 with af := lowOut, cf := highOut, of := Config.freeFlag d .of })

/-- DAS: AL and FLAGS (41 R401). -/
def dasF (d : Nat) (al : Byte) (f : Flags) : Byte × Flags :=
  let lowOut := lowDigitOut al f
  let al1 := if lowOut then al - 6 else al
  let highOut := decide (0x9F < al1.toNat) || f.cf
  let al2 := if highOut then al1 - 0x60 else al1
  (al2, { f.szp al2 with af := lowOut, cf := highOut, of := Config.freeFlag d .of })

/-- FLAGS of AAA and AAS: AF and CF are `out`; OF, SF, ZF, PF undefined (41 R402, R403). -/
def asciiFlags (d : Nat) (out : Bool) (f : Flags) : Flags :=
  { f with af := out, cf := out, of := Config.freeFlag d .of, sf := Config.freeFlag d .sf,
           zf := Config.freeFlag d .zf, pf := Config.freeFlag d .pf }

/-- AAA: AX and FLAGS (41 R402). -/
def aaaF (d : Nat) (ax : Word) (f : Flags) : Word × Flags :=
  let out := lowDigitOut ax.lo f
  let al := if out then ax.lo + 6 else ax.lo
  let ah := if out then ax.hi + 1 else ax.hi
  (wordOf ah (al &&& 0x0F), asciiFlags d out f)

/-- AAS: AX and FLAGS (41 R403). -/
def aasF (d : Nat) (ax : Word) (f : Flags) : Word × Flags :=
  let out := lowDigitOut ax.lo f
  let al := if out then ax.lo - 6 else ax.lo
  let ah := if out then ax.hi - 1 else ax.hi
  (wordOf ah (al &&& 0x0F), asciiFlags d out f)

/-- FLAGS of AAM and AAD: SF, ZF, PF from the new AL (92 D22), OF, AF, CF undefined (41 R404, R405). -/
def aaxFlags (d : Nat) (al : Byte) (f : Flags) : Flags :=
  { f.szp al with of := Config.freeFlag d .of, af := Config.freeFlag d .af, cf := Config.freeFlag d .cf }

/-- AAM: AX and FLAGS (41 R404). -/
def aamF (d : Nat) (ax : Word) (f : Flags) : Word × Flags :=
  let ah := BitVec.ofNat 8 (ax.lo.toNat / 10)
  let al := BitVec.ofNat 8 (ax.lo.toNat % 10)
  (wordOf ah al, aaxFlags d al f)

/-- AAD: AX and FLAGS (41 R405). -/
def aadF (d : Nat) (ax : Word) (f : Flags) : Word × Flags :=
  let al := BitVec.ofNat 8 (ax.lo.toNat + 10 * ax.hi.toNat)
  (wordOf 0 al, aaxFlags d al f)

/-! ### Conditions (44 R520) -/

/-- The sixteen conditions of Jcond, numbered as the opcode's low four bits (44 R520). -/
def Flags.cond (f : Flags) (c : BitVec 4) : Bool :=
  let even := match c.toNat / 2 with
    | 0 => f.of
    | 1 => f.cf
    | 2 => f.zf
    | 3 => f.cf || f.zf
    | 4 => f.sf
    | 5 => f.pf
    | 6 => f.sf != f.of
    | _ => f.zf || (f.sf != f.of)
  if c.toNat % 2 = 0 then even else !even

end Sys2Proof.Machine
end

