-- ==== Sys2Proof/Machine/Bus.lean ====
section
/-!
DEFINITION. Physical memory as one canonical list of cells (20 R100, R101, R106; log 6), the A20 mask of Real Address
Mode (20 R104; log 7), and the I/O space (20 R120; log 8).
-/

namespace Sys2Proof.Machine

/-! ### The list of cells -/

/-- What a byte that no cell lists reads as: FFH, the spec's default `PhysMem` (92 D1). DESIGN CHOICE (log 6). -/
def unlistedByte : Byte := 0xFF

/-- The byte at an address of a list of cells. -/
def readCell : List Host.Cell → Nat → Byte
  | [], _ => unlistedByte
  | c :: t, a => if c.1 = a then c.2 else readCell t a

/-- A list of cells with the byte at `a` set to `v`: writing the value an unlisted byte reads as removes the cell. -/
def writeCell : List Host.Cell → Nat → Byte → List Host.Cell
  | [], a, v => if v = unlistedByte then [] else [(a, v)]
  | c :: t, a, v =>
    if a < c.1 then (if v = unlistedByte then c :: t else (a, v) :: c :: t)
    else if a = c.1 then (if v = unlistedByte then t else (a, v) :: t)
    else c :: writeCell t a v

/-- Every address of a list of cells lies above `lo` and below 2^24, strictly rising, and no cell holds the byte that
an unlisted address reads as. -/
def cellsWf : Nat → List Host.Cell → Bool
  | _, [] => true
  | lo, c :: t => decide (lo ≤ c.1) && decide (c.1 < 2 ^ 24) && (c.2 != unlistedByte) && cellsWf (c.1 + 1) t

/-- The canonical form of memory. -/
def Memory.wf (m : List Host.Cell) : Bool := cellsWf 0 m

/-! ### Physical accesses (20 R106) -/

/-- The address the system decodes: A23-A20 are ignored in Real Address Mode when `a20Mask` says so (20 R104). -/
def State.busAddr (s : State) (a : Addr) : Addr :=
  if !s.msw.pe && s.env.a20Mask then a &&& 0x0FFFFF else a

/-- An address whose region ignores writes (92 D1). -/
def State.isRom (s : State) (k : Nat) : Bool := s.env.rom.any fun r => decide (r.1 ≤ k) && decide (k < r.1 + r.2)

/-- `PhysRead(a, 1)`. -/
def State.readByte (s : State) (a : Addr) : Byte := readCell s.mem (s.busAddr a).toNat

/-- `PhysWrite(a, 1, v)`. -/
def State.writeByte (s : State) (a : Addr) (v : Byte) : State :=
  { s with mem := if s.isRom (s.busAddr a).toNat then s.mem else writeCell s.mem (s.busAddr a).toNat v }

/-- `PhysRead(a, 2)`: little-endian, the second byte at `(a + 1) mod 2^24`. -/
def State.readWord (s : State) (a : Addr) : Word := wordOf (s.readByte (a + 1)) (s.readByte a)

/-- `PhysWrite(a, 2, v)`. -/
def State.writeWord (s : State) (a : Addr) (v : Word) : State := (s.writeByte a v.lo).writeByte (a + 1) v.hi

/-! ### I/O accesses (20 R120) -/

/-- One more bus cycle in the history of the I/O space. -/
def State.logIo (s : State) (c : IoCycle) : State := { s with ioLog := c :: s.ioLog }

/-- The byte `IoRead(p, 1)` returns in this state. -/
def State.portByte (s : State) (p : Word) : Byte := Config.ioRead s.ioLog p

/-- The machine after `IoRead(p, 1)`. -/
def State.afterPortByte (s : State) (p : Word) : State := s.logIo (.readByte p)

/-- A port that a word access reaches in one cycle: an even one (20 R102, R120). -/
def evenPort (p : Word) : Bool := !p.getLsbD 0

/-- The word `IoRead(p, 2)` returns: ports `p` and `(p + 1) mod 2^16`, low byte at `p`; an odd `p` takes two cycles. -/
def State.portWord (s : State) (p : Word) : Word :=
  if evenPort p then wordOf (s.portByte (p + 1)) (s.portByte p)
  else wordOf ((s.afterPortByte p).portByte (p + 1)) (s.portByte p)

/-- The machine after `IoRead(p, 2)`. -/
def State.afterPortWord (s : State) (p : Word) : State :=
  if evenPort p then s.logIo (.readWord p) else (s.afterPortByte p).afterPortByte (p + 1)

/-- `IoWrite(p, 1, v)`. -/
def State.outByte (s : State) (p : Word) (v : Byte) : State := s.logIo (.writeByte p v)

/-- `IoWrite(p, 2, v)`. -/
def State.outWord (s : State) (p : Word) (v : Word) : State :=
  if evenPort p then s.logIo (.writeWord p v) else (s.outByte p v.lo).outByte (p + 1) v.hi

end Sys2Proof.Machine
end

