-- ==== Sys2Proof/Machine/Segment.lean ====
section
/-!
DEFINITION. Registers and segments: the one home of every register access (10 R40, R41, R52, R58), the access-byte
predicates (21 R165), the limit, rights and validity checks of a segment-relative access (20 R108-R116), and the
accesses themselves.
-/

namespace Sys2Proof.Machine

/-! ### Exceptions (60 R771) -/

/-- What a check can raise: a vector with its Protected Mode error code, if it has one; or shutdown (60 R806). -/
inductive Exn where
  | trap (vec : Byte) (code : Option Word)
  | shutdown
  deriving DecidableEq, Repr

/-- Interrupt 0, divide error (60 R800). -/
def Exn.de : Exn := .trap 0 none
/-- Interrupt 5, BOUND range exceeded (60 R805). -/
def Exn.br : Exn := .trap 5 none
/-- #UD (60 R807). -/
def Exn.ud : Exn := .trap 6 none
/-- #NM (60 R808). -/
def Exn.nm : Exn := .trap 7 none
/-- #MF (60 R816). -/
def Exn.mf : Exn := .trap 16 none
/-- #TS with an error code (60 R811). -/
def Exn.ts (code : Word) : Exn := .trap 10 (some code)
/-- #NP with an error code (60 R813). -/
def Exn.np (code : Word) : Exn := .trap 11 (some code)
/-- #SS with an error code (60 R814); Protected Mode only. -/
def Exn.ss (code : Word) : Exn := .trap 12 (some code)
/-- #GP with an error code, and Interrupt 13 of Real Address Mode (60 R815). -/
def Exn.gp (code : Word) : Exn := .trap 13 (some code)

/-- An exception together with the state it is raised in, where that state is not the one before the instruction
(60 R812; 47 R695). -/
structure Trap where
  st : State
  exn : Exn
  deriving DecidableEq, Repr

/-- A check made in the state `st`: its failure is raised there. -/
def onFail {α : Type} (st : State) : Except Exn α → Except Trap α
  | .ok a => .ok a
  | .error e => .error { st := st, exn := e }

/-- A check: nothing when `c` holds, else the exception. -/
def require (c : Bool) (e : Exn) : Except Exn Unit := if c then .ok () else .error e

/-! ### General registers (10 R40, R41) -/

/-- A word register's value. -/
def Regs.get (g : Regs) : Reg16 → Word
  | .ax => g.ax | .cx => g.cx | .dx => g.dx | .bx => g.bx
  | .sp => g.sp | .bp => g.bp | .si => g.si | .di => g.di

/-- The registers with one word register written. -/
def Regs.set (g : Regs) (r : Reg16) (v : Word) : Regs :=
  match r with
  | .ax => { g with ax := v } | .cx => { g with cx := v } | .dx => { g with dx := v } | .bx => { g with bx := v }
  | .sp => { g with sp := v } | .bp => { g with bp := v } | .si => { g with si := v } | .di => { g with di := v }

/-- The word register that holds a byte register. -/
def reg8Word : Reg8 → Reg16
  | .al | .ah => .ax | .cl | .ch => .cx | .dl | .dh => .dx | .bl | .bh => .bx

/-- The byte register is the high half. -/
def reg8High : Reg8 → Bool
  | .ah | .ch | .dh | .bh => true | .al | .cl | .dl | .bl => false

/-- A byte register's value: a half of its word register (10 R41). -/
def Regs.get8 (g : Regs) (r : Reg8) : Byte := if reg8High r then (g.get (reg8Word r)).hi else (g.get (reg8Word r)).lo

/-- The registers with one byte register written: the other half is kept (10 R41). -/
def Regs.set8 (g : Regs) (r : Reg8) (v : Byte) : Regs :=
  g.set (reg8Word r) (if reg8High r then wordOf v (g.get (reg8Word r)).lo else wordOf (g.get (reg8Word r)).hi v)

/-- A word register. -/
def State.reg (s : State) (r : Reg16) : Word := s.regs.get r
/-- Write a word register. -/
def State.setReg (s : State) (r : Reg16) (v : Word) : State := { s with regs := s.regs.set r v }
/-- A byte register. -/
def State.reg8 (s : State) (r : Reg8) : Byte := s.regs.get8 r
/-- Write a byte register. -/
def State.setReg8 (s : State) (r : Reg8) (v : Byte) : State := { s with regs := s.regs.set8 r v }
/-- Write FLAGS. -/
def State.setFlags (s : State) (f : Flags) : State := { s with flags := f }
/-- Write IP: a transfer of control, whose target is inside the 64K (10 R46). -/
def State.setIp (s : State) (w : Word) : State := { s with ip := w, pastEnd := false }
/-- A free value has been drawn (93; log 12): the next draw is a new one. -/
def State.drawn (s : State) : State := { s with draw := s.draw + 1 }

/-- The offset of the instruction after this one (10 R45): IP still points at the first prefix byte. -/
def State.nextIp (s : State) : Word := s.ip + BitVec.ofNat 16 s.cur.len
/-- This instruction's last byte is at offset FFFFH: the next one would lie past the end of the segment (20 R114). -/
def State.endsAtTop (s : State) : Bool := decide (0xFFFF < s.ip.toNat + s.cur.len)
/-- Normal completion: IP moves to the next instruction (10 R45 (a)), which the fetch does not find at offset 0000H when
this one ended at FFFFH (20 R114; log 40). -/
def State.advance (s : State) : State := { s with ip := s.nextIp, pastEnd := s.endsAtTop }

/-! ### Segment registers and privilege -/

/-- A segment register. -/
def State.seg (s : State) : SReg → Seg
  | .es => s.es | .cs => s.cs | .ss => s.ss | .ds => s.ds

/-- Write a segment register. -/
def State.setSeg (s : State) (r : SReg) (g : Seg) : State :=
  match r with
  | .es => { s with es := g } | .cs => { s with cs := g } | .ss => { s with ss := g } | .ds => { s with ds := g }

/-- CPL: the low two bits of CS in Protected Mode, 0 in Real Address Mode (10 R58). -/
def State.cpl (s : State) : BitVec 2 := if s.msw.pe then s.cs.sel.extractLsb' 0 2 else 0

/-- The trusted-instruction test `CPL > IOPL` of Protected Mode (60 R846). -/
def State.untrusted (s : State) : Bool := s.msw.pe && decide (s.flags.iopl.toNat < s.cpl.toNat)

/-- The privileged-instruction test `CPL ≠ 0` of Protected Mode (60 R845). -/
def State.unprivileged (s : State) : Bool := s.msw.pe && (s.cpl != 0)

/-! ### Access bytes (21 R165) -/

/-- P. -/
def arPresent (ar : Byte) : Bool := ar.getLsbD 7
/-- DPL. -/
def arDpl (ar : Byte) : BitVec 2 := ar.extractLsb' 5 2
/-- `IsCode`. -/
def arCode (ar : Byte) : Bool := ar.getLsbD 4 && ar.getLsbD 3
/-- `IsData`. -/
def arData (ar : Byte) : Bool := ar.getLsbD 4 && !ar.getLsbD 3
/-- `IsWritableData`. -/
def arWritableData (ar : Byte) : Bool := arData ar && ar.getLsbD 1
/-- `IsReadable`. -/
def arReadable (ar : Byte) : Bool := arData ar || (arCode ar && ar.getLsbD 1)
/-- `IsConforming`. -/
def arConforming (ar : Byte) : Bool := arCode ar && ar.getLsbD 2
/-- The five type bits `ar AND 1FH`. -/
def arType (ar : Byte) : BitVec 5 := ar.extractLsb' 0 5

/-- The cached segment can be read as data (20 R113). -/
def Seg.readable (g : Seg) : Bool := !g.access.getLsbD 3 || g.access.getLsbD 1
/-- The cached segment can be written (20 R113). -/
def Seg.writable (g : Seg) : Bool := !g.access.getLsbD 3 && g.access.getLsbD 1
/-- The cached segment is an expand-down data segment (20 R112, 21 R176). -/
def Seg.expandDown (g : Seg) : Bool := !g.access.getLsbD 3 && g.access.getLsbD 2

/-! ### The checks of an access (20 R108-R116) -/

/-- `InLimit(seg, off, n)` (20 R111, R112). -/
def State.inLimit (s : State) (g : Seg) (off : Word) (n : Nat) : Bool :=
  if s.msw.pe && g.expandDown then decide (g.limit.toNat < off.toNat) && decide (off.toNat + n ≤ 0x10000)
  else decide (off.toNat + n ≤ g.limit.toNat + 1)

/-- `SegFault(seg)` (20 R115): #SS(0) for SS in Protected Mode, else #GP(0) or Interrupt 13. -/
def State.segFault (s : State) (r : SReg) : Exn := if s.msw.pe && (r == .ss) then .ss 0 else .gp 0

/-- The register may be used at all (20 R110; an invalid SS gives #SS(0), 92 D33). -/
def State.segUsable (s : State) (r : SReg) : Bool := !s.msw.pe || (s.seg r).valid

/-- The rights allow the access (20 R113); in Real Address Mode they always do. -/
def State.segRights (s : State) (r : SReg) (write : Bool) : Bool :=
  !s.msw.pe || (if write then (s.seg r).writable else (s.seg r).readable)

/-- All checks of an `n`-byte access at `r:off` (20 R108, R109), in order. -/
def State.check (s : State) (r : SReg) (off : Word) (n : Nat) (write : Bool) : Except Exn Unit := do
  require (s.segUsable r) (s.segFault r)
  require (s.segRights r write) (.gp 0)
  require (s.inLimit (s.seg r) off n) (s.segFault r)

/-! ### The accesses, made after their checks -/

/-- The physical address of `r:off` (20 R104, R105). -/
def State.linear (s : State) (r : SReg) (off : Word) : Addr := (s.seg r).base + zext24 off

/-- The byte at `r:off`. -/
def State.peek8 (s : State) (r : SReg) (off : Word) : Byte := s.readByte (s.linear r off)
/-- The word at `r:off`. -/
def State.peek16 (s : State) (r : SReg) (off : Word) : Word := s.readWord (s.linear r off)
/-- Store a byte at `r:off`. -/
def State.poke8 (s : State) (r : SReg) (off : Word) (v : Byte) : State := s.writeByte (s.linear r off) v
/-- Store a word at `r:off`. -/
def State.poke16 (s : State) (r : SReg) (off : Word) (v : Word) : State := s.writeWord (s.linear r off) v

/-! ### The stack (10 R43, 20 R117) -/

/-- `SP - k`. -/
def State.spDown (s : State) (k : Word) : Word := s.reg .sp - k

/-- `Push(v)` without its check: the word goes to SS:SP-2, then SP is that offset. -/
def State.push (s : State) (v : Word) : State := (s.poke16 .ss (s.spDown 2) v).setReg .sp (s.spDown 2)

/-- Every number below `k` passes. -/
def allBelow : Nat → (Nat → Bool) → Bool
  | 0, _ => true
  | k + 1, p => p k && allBelow k p

/-- `StackRoom(S, sp, 2*k)` (47, conventions): the `k` words below `sp` lie in the segment `g`. -/
def State.room (s : State) (g : Seg) (sp : Word) (k : Nat) : Bool :=
  allBelow k fun i => s.inLimit g (sp - BitVec.ofNat 16 (2 * (i + 1))) 2

/-- Room for `k` more words on the current stack; an SS marked invalid has none (92 D33). -/
def State.stackRoom (s : State) (k : Nat) : Bool := s.segUsable .ss && s.room s.ss (s.reg .sp) k

end Sys2Proof.Machine
end

