-- ==== Sys2Proof/Machine/Protect.lean ====
section
/-!
DEFINITION. Selectors, descriptors and the loading of segment registers, LDTR and TR (21 R161-R199), with the Real
Address Mode load (10 R54). A load's checks come first; the state is changed only after all of them (21 R190).
-/

namespace Sys2Proof.Machine

/-! ### Selectors (21 R161, R162; 60 R781) -/

/-- INDEX. -/
def selIndex (sel : Word) : Nat := (sel >>> 3).toNat
/-- TI. -/
def selTi (sel : Word) : Bool := sel.getLsbD 2
/-- RPL. -/
def selRpl (sel : Word) : BitVec 2 := sel.extractLsb' 0 2
/-- A null selector: INDEX = 0 and TI = 0, whatever its RPL. -/
def selNull (sel : Word) : Bool := sel &&& 0xFFFC == 0
/-- The selector with another RPL. -/
def selWithRpl (sel : Word) (p : BitVec 2) : Word := (sel &&& 0xFFFC) ||| p.setWidth 16

/-- The error code of a selector with EXT (60 R781). -/
def selCode (sel : Word) (ext : Bool) : Word := (sel &&& 0xFFFC) ||| lowBit ext
/-- The error code 0 with EXT (60 R781). -/
def zeroCode (ext : Bool) : Word := lowBit ext
/-- The error code of IDT entry `n` with EXT (60 R781). -/
def idtCode (n : Byte) (ext : Bool) : Word := zext16 n * 8 + 2 + lowBit ext

/-- The base of the table a selector names (21 R162). -/
def State.tableBase (s : State) (sel : Word) : Addr := if selTi sel then s.ldtr.base else s.gdtr.base

/-- The selector is within its descriptor table limits (21 R162); an invalid LDTR has no entry. -/
def State.inTable (s : State) (sel : Word) : Bool :=
  if selTi sel then s.ldtr.valid && decide (8 * selIndex sel + 7 ≤ s.ldtr.limit.toNat)
  else decide (8 * selIndex sel + 7 ≤ s.gdtr.limit.toNat)

/-- The physical address of a selector's descriptor (21 R162). -/
def State.descAddr (s : State) (sel : Word) : Addr := s.tableBase sel + BitVec.ofNat 24 (8 * selIndex sel)

/-! ### Descriptors (21 R163, R164, R170) -/

/-- The six bytes of a descriptor that the 286 reads: bytes 0-1, bytes 2-3, byte 4 and the access byte. -/
structure Desc where
  w0 : Word
  w1 : Word
  b4 : Byte
  access : Byte
  deriving DecidableEq, Repr

/-- LIMIT of a segment descriptor. -/
def Desc.limit (d : Desc) : Word := d.w0
/-- BASE of a segment descriptor. -/
def Desc.base (d : Desc) : Addr := d.b4 ++ d.w1
/-- DESTINATION OFFSET of a gate. PRESUMED layout (93 G1; log 25). -/
def Desc.gateOffset (d : Desc) : Word := d.w0
/-- DESTINATION SELECTOR of a gate. PRESUMED layout (93 G1; log 25). -/
def Desc.gateSel (d : Desc) : Word := d.w1
/-- WORD COUNT of a call gate. PRESUMED layout (93 G1; log 25). -/
def Desc.gateCount (d : Desc) : Nat := d.b4.toNat % 32
/-- DPL. -/
def Desc.dpl (d : Desc) : BitVec 2 := arDpl d.access
/-- P. -/
def Desc.present (d : Desc) : Bool := arPresent d.access

/-- The descriptor at a physical address. -/
def State.descAt (s : State) (a : Addr) : Desc :=
  { w0 := s.readWord a, w1 := s.readWord (a + 2), b4 := s.readByte (a + 4), access := s.readByte (a + 5) }

/-- `FetchDescriptor(sel)` (21 R163). -/
def State.desc (s : State) (sel : Word) : Desc := s.descAt (s.descAddr sel)

/-- Write the access byte of a selector's descriptor. -/
def State.setAccessByte (s : State) (sel : Word) (ar : Byte) : State := s.writeByte (s.descAddr sel + 5) ar

/-- `SetAccessed(sel)` (21 R166). -/
def State.setAccessed (s : State) (sel : Word) (d : Desc) : State := s.setAccessByte sel (d.access ||| 1)

/-- The cache contents of a loaded segment descriptor (21 R191 step 7, R192 step 5). -/
def Desc.toSeg (d : Desc) (sel : Word) : Seg :=
  { sel := sel, base := d.base, limit := d.limit, access := d.access ||| 1, valid := true }

/-- A segment register given a null selector: AR = 0 and not valid (21 R192, R199). -/
def Seg.nulled (g : Seg) (sel : Word) : Seg := { g with sel := sel, access := 0, valid := false }

/-- SetAccessed, then the register's selector and cache (21 R190 steps 3, 4). -/
def State.loadSeg (s : State) (r : SReg) (sel : Word) (d : Desc) : State :=
  (s.setAccessed sel d).setSeg r (d.toSeg sel)

/-- `LoadCS(sel, d, newCPL)` (21 R193). -/
def State.loadCs (s : State) (sel : Word) (d : Desc) (p : BitVec 2) : State :=
  (s.setAccessed sel d).setSeg .cs (d.toSeg (selWithRpl sel p))

/-! ### Real Address Mode loads (10 R54) -/

/-- The cache of a segment register loaded with `sel` in Real Address Mode. -/
def realSeg (sel : Word) : Seg :=
  { sel := sel, base := zext24 sel <<< 4, limit := 0xFFFF, access := realAccess, valid := true }

/-- `FarJumpReal(sel, off)` (44 R516). -/
def State.farJumpReal (s : State) (sel off : Word) : State := (s.setSeg .cs (realSeg sel)).setIp off

/-! ### Protected Mode loads -/

/-- The tests on a selector for SS at privilege level `p` (21 R191, and its uses in 47): `bad` builds the exception of
the validity tests from a selector code, `null` is raised for a null selector; not present is #SS. -/
def State.checkSs (s : State) (sel : Word) (p : BitVec 2) (null : Exn) (bad : Word → Exn) (ext : Bool) :
    Except Exn Unit := do
  require (!selNull sel) null
  require (s.inTable sel) (bad (selCode sel ext))
  require (selRpl sel == p) (bad (selCode sel ext))
  require (arWritableData (s.desc sel).access) (bad (selCode sel ext))
  require ((s.desc sel).dpl == p) (bad (selCode sel ext))
  require (s.desc sel).present (.ss (selCode sel ext))

/-- The tests on a non-null selector for DS or ES at privilege level `p` (21 R192, 47 R694 step 14). -/
def State.checkData (s : State) (sel : Word) (p : BitVec 2) (bad : Word → Exn) (ext : Bool) : Except Exn Unit := do
  require (s.inTable sel) (bad (selCode sel ext))
  require (arReadable (s.desc sel).access) (bad (selCode sel ext))
  require (arConforming (s.desc sel).access ||
    (decide (p.toNat ≤ (s.desc sel).dpl.toNat) && decide ((selRpl sel).toNat ≤ (s.desc sel).dpl.toNat)))
    (bad (selCode sel ext))
  require (s.desc sel).present (.np (selCode sel ext))

/-- The tests on a selector loaded into SS, DS or ES by MOV, POP, LDS or LES (40 R325; 21 R191, R192): none in Real
Address Mode, none on a null selector for DS or ES. -/
def State.checkSreg (s : State) (r : SReg) (sel : Word) : Except Exn Unit :=
  if !s.msw.pe then .ok ()
  else if r = .ss then s.checkSs sel s.cpl (.gp 0) .gp false
  else if selNull sel then .ok ()
  else s.checkData sel s.cpl .gp false

/-- The load of SS, DS or ES after its tests (10 R54; 21 R191, R192). -/
def State.applySreg (s : State) (r : SReg) (sel : Word) : State :=
  if !s.msw.pe then s.setSeg r (realSeg sel)
  else if selNull sel then s.setSeg r ((s.seg r).nulled sel)
  else s.loadSeg r sel (s.desc sel)

/-- The tests LLDT makes on a selector (21 R194): none on a null one. -/
def State.checkLdt (s : State) (sel : Word) : Except Exn Unit :=
  if selNull sel then .ok ()
  else do
    require (!selTi sel) (.gp (selCode sel false))
    require (s.inTable sel) (.gp (selCode sel false))
    require (arType (s.desc sel).access == 0x02) (.gp (selCode sel false))
    require (s.desc sel).present (.np (selCode sel false))

/-- LDTR and TR as a descriptor loads them. -/
def Desc.toSys (d : Desc) (sel : Word) : SysSeg := { sel := sel, base := d.base, limit := d.limit, valid := true }

/-- The load of LDTR after its tests (21 R194); a null selector marks it invalid. -/
def State.applyLdt (s : State) (sel : Word) : State :=
  { s with ldtr := if selNull sel then { s.ldtr with sel := sel, valid := false } else (s.desc sel).toSys sel }

/-- `IsAvailTSS` (21 R165). -/
def arAvailTss (ar : Byte) : Bool := arType ar == 0x01
/-- `IsBusyTSS` (21 R165). -/
def arBusyTss (ar : Byte) : Bool := arType ar == 0x03

/-- The tests LTR makes on a selector (21 R195). -/
def State.checkTr (s : State) (sel : Word) : Except Exn Unit := do
  require (!selNull sel) (.gp 0)
  require (!selTi sel) (.gp (selCode sel false))
  require (s.inTable sel) (.gp (selCode sel false))
  require (arAvailTss (s.desc sel).access) (.gp (selCode sel false))
  require (s.desc sel).present (.np (selCode sel false))

/-- The load of TR after its tests (21 R195): the descriptor becomes busy in memory. -/
def State.applyTr (s : State) (sel : Word) : State :=
  { s.setAccessByte sel ((s.desc sel).access ||| 2) with tr := (s.desc sel).toSys sel }

/-! ### DS and ES on a return to an outer level (21 R199) -/

/-- The setting of a segment register is valid for level `p`: by its selector, its cached access byte and the current
table limit (92 D14). -/
def State.validForOuter (s : State) (g : Seg) (p : BitVec 2) : Bool :=
  !selNull g.sel && s.inTable g.sel && arReadable g.access &&
    (arConforming g.access ||
      (decide (p.toNat ≤ (arDpl g.access).toNat) && decide ((selRpl g.sel).toNat ≤ (arDpl g.access).toNat)))

/-- Null one register if it is not valid for level `p`. -/
def State.nullIfInner (s : State) (r : SReg) (p : BitVec 2) : State :=
  if s.validForOuter (s.seg r) p then s
  else s.setSeg r ((s.seg r).nulled 0)

end Sys2Proof.Machine
end

