-- ==== Sys2Proof/Machine/Task.lean ====
section
/-!
DEFINITION. The task state segment and the task switch (47 R690-R696). The offsets of the TSS words are the family's,
PRESUMED (93 G2; log 25).
-/

namespace Sys2Proof.Machine

/-- What started a task switch (47 R694). -/
inductive SwitchKind where
  | jmp | call | int | iret
  deriving DecidableEq, Repr

/-- `nesting` of 47 R694: CALL and interrupts nest. -/
def SwitchKind.nests : SwitchKind → Bool
  | .call | .int => true
  | .jmp | .iret => false

/-- `TssWord(o)` without its check (47 R690). -/
def State.tssWord (s : State) (o : Nat) : Word := s.readWord (s.tr.base + BitVec.ofNat 24 o)

/-- `TssWrite(o, v)` (47 R690). -/
def State.tssWrite (s : State) (o : Nat) (v : Word) : State := s.writeWord (s.tr.base + BitVec.ofNat 24 o) v

/-- A word of the current TSS, with the check that TR is loaded and holds it: else #TS(TR) (92 D32). -/
def State.tssField (s : State) (o : Nat) (ext : Bool) : Except Exn Word := do
  require (s.tr.valid && decide (o + 1 ≤ s.tr.limit.toNat)) (.ts (selCode s.tr.sel ext))
  return s.tssWord o

/-- The machine state is saved in the current TSS (47 R694 step 4); `f` is the FLAGS word stored. -/
def State.saveTask (s : State) (ip : Word) (f : Flags) : State :=
  ((((((((((((((s.tssWrite 14 ip).tssWrite 16 f.toWord).tssWrite 18 s.regs.ax).tssWrite 20 s.regs.cx).tssWrite 22
    s.regs.dx).tssWrite 24 s.regs.bx).tssWrite 26 s.regs.sp).tssWrite 28 s.regs.bp).tssWrite 30 s.regs.si).tssWrite 32
    s.regs.di).tssWrite 34 s.es.sel).tssWrite 36 s.cs.sel).tssWrite 38 s.ss.sel).tssWrite 40 s.ds.sel)

/-- The general registers of the current TSS (47 R694 step 7). -/
def State.tssRegs (s : State) : Regs :=
  { ax := s.tssWord 18, cx := s.tssWord 20, dx := s.tssWord 22, bx := s.tssWord 24,
    sp := s.tssWord 26, bp := s.tssWord 28, si := s.tssWord 30, di := s.tssWord 32 }

/-- A segment register given a selector whose descriptor is not loaded yet (47 R694 step 7). -/
def Seg.pendingSel (g : Seg) (sel : Word) : Seg := { g with sel := sel, valid := false }

/-- NT after the switch: set by nesting, cleared by JMP, kept by IRET (47 R692). -/
def SwitchKind.nt (k : SwitchKind) (loaded : Bool) : Bool :=
  match k with
  | .call | .int => true
  | .jmp => false
  | .iret => loaded

/-- All machine registers from the current TSS, without descriptors; TS is set (47 R694 steps 7-9). -/
def State.loadTask (s : State) (k : SwitchKind) : State :=
  let f := Flags.ofWord (s.tssWord 16)
  { s with
    ip := s.tssWord 14
    pastEnd := false
    flags := { f with nt := k.nt f.nt }
    regs := s.tssRegs
    es := s.es.pendingSel (s.tssWord 34)
    cs := s.cs.pendingSel (s.tssWord 36)
    ss := s.ss.pendingSel (s.tssWord 38)
    ds := s.ds.pendingSel (s.tssWord 40)
    ldtr := { s.ldtr with sel := s.tssWord 42, valid := false }
    msw := { s.msw with ts := true } }

/-- The incoming LDT (47 R694 step 10): every failure is #TS; a null selector leaves LDTR invalid (92 D31). -/
def State.taskLdt (s : State) (ext : Bool) : Except Exn State :=
  let l := s.ldtr.sel
  if selNull l then .ok s
  else do
    require (!selTi l) (.ts (selCode l ext))
    require (s.inTable l) (.ts (selCode l ext))
    require (arType (s.desc l).access == 0x02) (.ts (selCode l ext))
    require (s.desc l).present (.ts (selCode l ext))
    return { s with ldtr := (s.desc l).toSys l }

/-- The incoming SS (47 R694 step 12). -/
def State.taskSs (s : State) (ext : Bool) : Except Exn State := do
  s.checkSs s.ss.sel (selRpl s.cs.sel) (.ts (selCode s.ss.sel ext)) .ts ext
  return s.loadSeg .ss s.ss.sel (s.desc s.ss.sel)

/-- A code segment's privilege fits level `p`: DPL = p, or conforming with DPL ≤ p (21 R187, 47 R694 step 13). -/
def codeFits (ar : Byte) (p : BitVec 2) : Bool :=
  if arConforming ar then decide ((arDpl ar).toNat ≤ p.toNat) else arDpl ar == p

/-- The incoming CS (47 R694 step 13). -/
def State.taskCs (s : State) (ext : Bool) : Except Exn State := do
  let c := s.cs.sel
  require (!selNull c) (.ts (selCode c ext))
  require (s.inTable c) (.ts (selCode c ext))
  require (arCode (s.desc c).access) (.ts (selCode c ext))
  require (codeFits (s.desc c).access (selRpl c)) (.ts (selCode c ext))
  require (s.desc c).present (.np (selCode c ext))
  return s.loadCs c (s.desc c) (selRpl c)

/-- The incoming DS or ES (47 R694 step 14). -/
def State.taskData (s : State) (r : SReg) (ext : Bool) : Except Exn State :=
  let x := (s.seg r).sel
  if selNull x then .ok s
  else do
    s.checkData x (selRpl s.cs.sel) .ts ext
    return s.loadSeg r x (s.desc x)

/-- Steps 3 to 9 of 47 R694: the outgoing task is saved, TR names the new TSS, the registers are loaded. -/
def State.commitSwitch (s : State) (nsel : Word) (nd : Desc) (k : SwitchKind) (saveIp : Word) : State :=
  let s1 := s.setAccessByte nsel (nd.access ||| 2)
  let s2 := s1.saveTask saveIp (if k = .iret then { s.flags with nt := false } else s.flags)
  let s3 := if k.nests then s2.writeWord nd.base s.tr.sel
    else s2.setAccessByte s.tr.sel ((s2.desc s.tr.sel).access &&& 0xFD)
  ({ s3 with tr := nd.toSys nsel }).loadTask k

/-- `SwitchTasks` (47 R694): `nd` is the descriptor of the incoming TSS `nsel`, `saveIp` the IP stored for the
outgoing task. A failure of steps 10-14 is raised in the incoming task, with what has been loaded so far (47 R695). -/
def State.switchTasks (s : State) (nsel : Word) (nd : Desc) (k : SwitchKind) (saveIp : Word) (ext : Bool) :
    Except Trap State := do
  onFail s (require (s.tr.valid && decide (43 ≤ s.tr.limit.toNat)) (.ts (selCode nsel ext)))
  onFail s (require (decide (43 ≤ nd.limit.toNat)) (.ts (selCode nsel ext)))
  let s0 := s.commitSwitch nsel nd k saveIp
  let s1 ← onFail s0 (s0.taskLdt ext)
  let s2 ← onFail s1 (s1.taskSs ext)
  let s3 ← onFail s2 (s2.taskCs ext)
  let s4 ← onFail s3 (s3.taskData .ds ext)
  onFail s4 (s4.taskData .es ext)

/-- The IP test that ends every task switch, made in the new task (47 R643, R667, R672). -/
def State.checkTaskIp (s : State) (ext : Bool) : Except Trap State := do
  onFail s (require (decide (s.ip.toNat ≤ s.cs.limit.toNat)) (.gp (zeroCode ext)))
  return s

end Sys2Proof.Machine
end

