-- ==== Sys2Proof/Machine/Ops.lean ====
section
/-!
DEFINITION. TAKING AN EXCEPTION, as one operation for both modes (60 R780-R785, R806, R809; 47 R665-R667), the return
from one beside it (44 R555; 47 R670-R672), and how a meaning ends.
-/

namespace Sys2Proof.Machine

/-- What a meaning answers. -/
abbrev Out := Host.Outcome State Fault Refusal

/-! ### Delivery -/

/-- The kind of an event (60 R770): it decides the gate's privilege test, EXT, and what a fault of the delivery
becomes. -/
inductive EventKind where
  | software | fault | external
  deriving DecidableEq, Repr

/-- An event to deliver (60 R780): its vector, its kind, the return offset it saves, and its error code. -/
structure Event where
  vec : Byte
  kind : EventKind
  retIp : Word
  err : Option Word
  deriving DecidableEq, Repr

/-- EXT (60 R781): 1 exactly while an external event is delivered. -/
def Event.ext (ev : Event) : Bool := ev.kind == .external

/-- The words an error code adds to a frame. -/
def Event.errWords (ev : Event) : Nat := if ev.err.isSome then 1 else 0

/-- The machine in shutdown: registers keep what they have (60 R806, 93 U15). -/
def State.enterShutdown (s : State) : State := { s with run := .shutdown }

/-- The machine running again (60 R796, R806). -/
def State.resume (s : State) : State := { s with run := .running }

/-- Pushes in Real Address Mode, one after the other: the first that fails ends in shutdown with the earlier ones
done (60 R806, 93 U15). -/
def pushAllReal : List Word → State → Except State State
  | [], s => .ok s
  | w :: t, s =>
    match s.check .ss (s.spDown 2) 2 true with
    | .ok _ => pushAllReal t (s.push w)
    | .error _ => .error s

/-- FLAGS at the entry of a handler in Real Address Mode (60 R785). -/
def Flags.entryReal (f : Flags) : Flags := { f with ief := false, tf := false }

/-- The frame and the jump of a Real Address Mode delivery of vector `n` (60 R780, R783). -/
def State.enterReal (s : State) (n : Byte) (retIp : Word) : State :=
  match pushAllReal [s.flags.toWord, s.cs.sel, retIp] s with
  | .error s1 => s1.enterShutdown
  | .ok s1 =>
    let a := s1.idtr.base + BitVec.ofNat 24 (4 * n.toNat)
    ((s1.setFlags s1.flags.entryReal).farJumpReal (s1.readWord (a + 2)) (s1.readWord a)).resume

/-- Vector `n` is inside the Real Address Mode table (60 R782). -/
def State.inVectorTable (s : State) (n : Byte) : Bool := decide (4 * n.toNat + 3 ≤ s.idtr.limit.toNat)

/-- Delivery in Real Address Mode (60 R782, R809): outside the table it is interrupt 8, saving the address of the
instruction itself; shutdown when that, or vector 8 or 13, is outside. -/
def State.deliverReal (s : State) (n : Byte) (retIp : Word) : State :=
  if s.inVectorTable n then s.enterReal n retIp
  else if n = 8 ∨ n = 13 then s.enterShutdown
  else if s.inVectorTable 8 then s.enterReal 8 s.ip
  else s.enterShutdown

/-- FLAGS at the entry of a handler through a trap or interrupt gate (60 R785): IF only through an interrupt gate. -/
def Flags.entryProt (f : Flags) (intGate : Bool) : Flags :=
  { f with ief := if intGate then false else f.ief, tf := false, nt := false }

/-- Push an error code, if there is one. -/
def State.pushErr (s : State) (err : Option Word) : State :=
  match err with
  | some c => s.push c
  | none => s

/-- The gate is an interrupt gate, type 6 (21 R170). -/
def Desc.isIntGate (g : Desc) : Bool := arType g.access == 0x06

/-- Entry through gate `g` to code segment `c` at the same level (47 R665 steps 6-11). -/
def State.enterSame (s : State) (ev : Event) (g : Desc) (c : Word) : Except Exn State := do
  let cd := s.desc c
  require (s.stackRoom (3 + ev.errWords)) (.ss (zeroCode ev.ext))
  require (decide (g.gateOffset.toNat ≤ cd.limit.toNat)) (.gp (zeroCode ev.ext))
  let s1 := ((s.push s.flags.toWord).push s.cs.sel).push ev.retIp
  let s2 := ((s1.loadCs c cd s.cpl).setIp g.gateOffset).pushErr ev.err
  return s2.setFlags (s2.flags.entryProt g.isIntGate)

/-- The stack pointer of level `l` in the current TSS: SP then SS (47 R653 step 1). -/
def State.innerStack (s : State) (l : BitVec 2) (ext : Bool) : Except Exn (Word × Word) := do
  let sp ← s.tssField (2 + 4 * l.toNat) ext
  let ss ← s.tssField (4 + 4 * l.toNat) ext
  return (sp, ss)

/-- SS:SP replaced by an inner stack (47 R653 step 12). -/
def State.switchStack (s : State) (ss sp : Word) (sd : Desc) : State := (s.loadSeg .ss ss sd).setReg .sp sp

/-- Entry through gate `g` to code segment `c` at an inner level (47 R666). -/
def State.enterInner (s : State) (ev : Event) (g : Desc) (c : Word) : Except Exn State := do
  let cd := s.desc c
  let l := cd.dpl
  let (nsp, nss) ← s.innerStack l ev.ext
  s.checkSs nss l (.gp (zeroCode ev.ext)) .ts ev.ext
  let sd := s.desc nss
  require (s.room (sd.toSeg nss) nsp (5 + ev.errWords)) (.ss (zeroCode ev.ext))
  require (decide (g.gateOffset.toNat ≤ cd.limit.toNat)) (.gp (zeroCode ev.ext))
  let s1 := ((s.switchStack nss nsp sd).loadCs c cd l).setIp g.gateOffset
  let s2 := ((((s1.push s.ss.sel).push (s.reg .sp)).push s.flags.toWord).push s.cs.sel).push ev.retIp
  let s3 := s2.pushErr ev.err
  return s3.setFlags (s3.flags.entryProt g.isIntGate)

/-- Entry through a trap or interrupt gate (47 R665 steps 1-5). -/
def State.enterGate (s : State) (ev : Event) (g : Desc) : Except Exn State := do
  let c := g.gateSel
  require (!selNull c) (.gp (zeroCode ev.ext))
  require (s.inTable c) (.gp (selCode c ev.ext))
  let cd := s.desc c
  require (arCode cd.access) (.gp (selCode c ev.ext))
  require cd.present (.np (selCode c ev.ext))
  if !arConforming cd.access && decide (cd.dpl.toNat < s.cpl.toNat) then s.enterInner ev g c
  else do
    require (codeFits cd.access s.cpl) (.gp (selCode c ev.ext))
    s.enterSame ev g c

/-- The tests on the TSS selector `t` of a task gate (47 R643, R667). A null one is #GP(0) with GDT entry 0 unread
(21 R161). -/
def State.checkGateTask (s : State) (t : Word) (ext : Bool) : Except Exn Unit := do
  require (!selTi t) (.gp (selCode t ext))
  require (!selNull t) (.gp (zeroCode ext))
  require (s.inTable t) (.gp (selCode t ext))
  require (arAvailTss (s.desc t).access) (.gp (selCode t ext))
  require (s.desc t).present (.np (selCode t ext))

/-- Entry through a task gate (47 R667). -/
def State.enterTask (s : State) (ev : Event) (g : Desc) : Except Trap State := do
  let t := g.gateSel
  onFail s (s.checkGateTask t ev.ext)
  let s1 ← s.switchTasks t (s.desc t) .int ev.retIp ev.ext
  onFail s1 (require (ev.err.isNone || s1.stackRoom 1) (.ss (zeroCode ev.ext)))
  (s1.pushErr ev.err).checkTaskIp ev.ext

/-- The gate tests of 60 R782, Protected Mode. -/
def State.checkGate (s : State) (ev : Event) (g : Desc) : Except Exn Unit := do
  require (decide (8 * ev.vec.toNat + 7 ≤ s.idtr.limit.toNat)) (.gp (idtCode ev.vec ev.ext))
  require (arType g.access == 0x05 || arType g.access == 0x06 || arType g.access == 0x07) (.gp (idtCode ev.vec ev.ext))
  require (!(ev.kind == .software && decide (g.dpl.toNat < s.cpl.toNat))) (.gp (idtCode ev.vec ev.ext))
  require g.present (.np (idtCode ev.vec ev.ext))

/-- The IDT entry of a vector. -/
def State.idtGate (s : State) (n : Byte) : Desc := s.descAt (s.idtr.base + BitVec.ofNat 24 (8 * n.toNat))

/-- One delivery in Protected Mode (60 R780, R782): the handler's state, or the fault of the delivery with the state
it is raised in. -/
def State.deliverProt (s : State) (ev : Event) : Except Trap State := do
  let g := s.idtGate ev.vec
  onFail s (s.checkGate ev g)
  let s1 ← if arType g.access == 0x05 then s.enterTask ev g else onFail s (s.enterGate ev g)
  return s1.resume

/-- #DF (60 R809): vector 8 with error code 0; a fault of its delivery is shutdown (60 R806). -/
def State.doubleFault (s : State) : State :=
  match s.deliverProt { vec := 8, kind := .fault, retIp := s.ip, err := some 0 } with
  | .ok s1 => s1
  | .error t => t.st.enterShutdown

/-- The fault of a delivery, delivered as an ordinary fault (60 R809 rows 1, 2). -/
def State.secondFault (s : State) (e : Exn) : State :=
  match e with
  | .shutdown => s.enterShutdown
  | .trap v c =>
    match s.deliverProt { vec := v, kind := .fault, retIp := s.ip, err := c } with
    | .ok s1 => s1
    | .error t => t.st.doubleFault

/-- `Interrupt(n, kind, err)` (60 R780), with what a fault of the delivery becomes (60 R809). -/
def State.deliver (s : State) (ev : Event) : State :=
  if !s.msw.pe then s.deliverReal ev.vec ev.retIp
  else
    match s.deliverProt ev with
    | .ok s1 => s1
    | .error t => if ev.kind = .fault then t.st.doubleFault else t.st.secondFault t.exn

/-- The kind of a vector that an instruction raises: 7 and 16 count as external (60 R770). -/
def raisedKind (v : Byte) : EventKind := if v = 7 ∨ v = 16 then .external else .fault

/-- TAKING AN EXCEPTION that the instruction in progress raises: the saved address is its first byte, prefixes
included (60 R780). -/
def State.raise (s : State) (e : Exn) : State :=
  match e with
  | .shutdown => s.enterShutdown
  | .trap v c => s.deliver { vec := v, kind := raisedKind v, retIp := s.ip, err := c }

/-- INT n, INT 3, INTO: the saved address is that of the next instruction (60 R780). -/
def State.softInt (s : State) (n : Byte) : State :=
  s.deliver { vec := n, kind := .software, retIp := s.nextIp, err := none }

/-- An event taken between two instructions (60 R790): the saved address is the current IP. -/
def State.extInt (s : State) (n : Byte) : State :=
  s.deliver { vec := n, kind := .external, retIp := s.ip, err := none }

/-! ### How a meaning ends -/

/-- The checks, then the effect: the exception of the first check that fails is taken in the state before. -/
def attempt (s : State) (c : Except Exn Unit) (t : State) : Out :=
  match c with
  | .ok _ => .next t
  | .error e => .next (s.raise e)

/-- The result of an operation that makes its own checks before any change. -/
def finish (s : State) (r : Except Exn State) : Out :=
  match r with
  | .ok t => .next t
  | .error e => .next (s.raise e)

/-- The result of an operation whose exceptions may find another state. -/
def finishT (r : Except Trap State) : Out :=
  match r with
  | .ok t => .next t
  | .error t => .next (t.st.raise t.exn)

/-! ### Returning (44 R555, 47 R670-R672, 21 R187) -/

/-- `k` words from SS:SP upward lie in the stack segment, else #SS(0) or Interrupt 13. -/
def State.checkFrame (s : State) (k : Nat) : Except Exn Unit :=
  require (s.segUsable .ss && allBelow k fun i => s.inLimit s.ss (s.reg .sp + BitVec.ofNat 16 (2 * i)) 2)
    (s.segFault .ss)

/-- The word `k` bytes above SS:SP. -/
def State.stackWord (s : State) (k : Word) : Word := s.peek16 .ss (s.reg .sp + k)

/-- IRET ends the NMI mask (60 R793). -/
def State.unmaskNmi (s : State) : State := { s with nmiMasked := false }

/-- SP raised by `k`. -/
def State.popBytes (s : State) (k : Word) : State := s.setReg .sp (s.reg .sp + k)

/-- IRET in Real Address Mode (44 R555). -/
def State.iretReal (s : State) : Except Exn State := do
  s.checkFrame 3
  let s1 := (s.popBytes 6).setFlags (s.flags.loadReal (s.stackWord 4))
  return (s1.farJumpReal (s.stackWord 2) (s.stackWord 0)).unmaskNmi

/-- The tests on the return CS selector for level `p` (47 R660 steps 4-8). -/
def State.checkRetCs (s : State) (rcs : Word) (p : BitVec 2) : Except Exn Unit := do
  require (!selNull rcs) (.gp 0)
  require (s.inTable rcs) (.gp (selCode rcs false))
  require (arCode (s.desc rcs).access) (.gp (selCode rcs false))
  require (codeFits (s.desc rcs).access p) (.gp (selCode rcs false))
  require (s.desc rcs).present (.np (selCode rcs false))

/-- CS:IP, SS:SP of the outer level, then DS and ES nulled where they are not valid for it (47 R661 steps 15-17). -/
def State.applyOuter (s : State) (rcs rip rss rsp : Word) : State :=
  let p := selRpl rcs
  let s1 := (s.loadCs rcs (s.desc rcs) p).setIp rip
  let s2 := (s1.loadSeg .ss rss (s.desc rss)).setReg .sp rsp
  (s2.nullIfInner .es p).nullIfInner .ds p

/-- IRET to the same level (47 R670 steps 4-12). -/
def State.iretSame (s : State) (rcs : Word) : Except Exn State := do
  s.checkFrame 3
  s.checkRetCs rcs s.cpl
  let d := s.desc rcs
  require (decide ((s.stackWord 0).toNat ≤ d.limit.toNat)) (.gp 0)
  let s1 := (s.loadCs rcs d s.cpl).setIp (s.stackWord 0)
  return (s1.setFlags (s.flags.loadProt s.cpl (s.stackWord 4))).popBytes 6

/-- IRET to an outer level (47 R671). -/
def State.iretOuter (s : State) (rcs : Word) : Except Exn State := do
  s.checkFrame 5
  s.checkRetCs rcs (selRpl rcs)
  let rss := s.stackWord 8
  s.checkSs rss (selRpl rcs) (.gp 0) .gp false
  require (decide ((s.stackWord 0).toNat ≤ (s.desc rcs).limit.toNat)) (.gp 0)
  return (s.applyOuter rcs (s.stackWord 0) rss (s.stackWord 6)).setFlags (s.flags.loadProt s.cpl (s.stackWord 4))

/-- IRET with NT = 0 (47 R670, R671). -/
def State.iretStack (s : State) : Except Exn State := do
  s.check .ss (s.reg .sp + 2) 2 false
  let rcs := s.stackWord 2
  require (decide (s.cpl.toNat ≤ (selRpl rcs).toNat)) (.gp (selCode rcs false))
  if selRpl rcs = s.cpl then s.iretSame rcs else s.iretOuter rcs

/-- `IsTSS` (21 R165). -/
def arTss (ar : Byte) : Bool := arAvailTss ar || arBusyTss ar

/-- The tests on the back link (47 R672 steps 2-6); a null one is #TS(0), GDT entry 0 unread (21 R161, 90 C41 (v)). -/
def State.checkBackLink (s : State) (b : Word) : Except Exn Unit := do
  require (!selNull b) (.ts 0)
  require (!selTi b) (.ts (selCode b false))
  require (s.inTable b) (.ts (selCode b false))
  require (arTss (s.desc b).access) (.ts (selCode b false))
  require (arBusyTss (s.desc b).access) (.ts (selCode b false))
  require (s.desc b).present (.np (selCode b false))

/-- IRET with NT = 1: return to the task of the back link (47 R672). -/
def State.iretTask (s : State) : Except Trap State := do
  let b ← onFail s (s.tssField 0 false)
  onFail s (s.checkBackLink b)
  let s1 ← s.switchTasks b (s.desc b) .iret s.nextIp false
  s1.checkTaskIp false

/-- RETURN FROM AN EXCEPTION: IRET in both modes. A completed IRET ends the NMI mask. -/
def State.iret (s : State) : Except Trap State := do
  let s1 ← if !s.msw.pe then onFail s s.iretReal
    else if s.flags.nt then s.iretTask
    else onFail s s.iretStack
  return s1.unmaskNmi

end Sys2Proof.Machine
end

