-- ==== Sys2Proof/Machine/Operands.lean ====
section
/-!
DEFINITION. The operands of an instruction (30 R265-R276, R291): effective addresses, the segment an operand uses, the
checks of an operand, and its reading, writing and updating. A check is made before anything changes; the accessors
after it are total. EA and segment come from the state they are given: the one before the instruction.
-/

namespace Sys2Proof.Machine

/-! ### Addresses (30 R270-R276) -/

/-- The sum of the base and index registers of a form (30 R272). -/
def State.baseSum (s : State) : MemBase → Word
  | .bxSi => s.reg .bx + s.reg .si
  | .bxDi => s.reg .bx + s.reg .di
  | .bpSi => s.reg .bp + s.reg .si
  | .bpDi => s.reg .bp + s.reg .di
  | .si => s.reg .si
  | .di => s.reg .di
  | .bp => s.reg .bp
  | .bx => s.reg .bx

/-- A displacement as a word: a byte is sign-extended (30 R270). -/
def dispWord : Disp → Word
  | .none => 0
  | .d8 b => sext16 b
  | .d16 w => w

/-- EA, modulo 2^16 (30 R272). -/
def State.ea (s : State) : MemRef → Word
  | .direct w => w
  | .idx b d => s.baseSum b + dispWord d

/-- The default segment: SS for the forms with BP, else DS (30 R273). -/
def defaultSeg : MemRef → SReg
  | .idx .bpSi _ | .idx .bpDi _ | .idx .bp _ => .ss
  | _ => .ds

/-- The segment of an overridable operand: the last override prefix, else the default (30 R275, R262). -/
def State.segOr (s : State) (d : SReg) : SReg := s.cur.seg.getD d

/-- SEG of a memory operand. -/
def State.memSeg (s : State) (m : MemRef) : SReg := s.segOr (defaultSeg m)

/-- The checks of `n` bytes at a memory operand (20 R116: one operand, checked whole). -/
def State.checkMem (s : State) (m : MemRef) (n : Nat) (write : Bool) : Except Exn Unit :=
  s.check (s.memSeg m) (s.ea m) n write

/-- The checks of `n` bytes of an operand that must be in memory: #UD for a register (30 R288 case 5). -/
def State.checkM (s : State) (e : Ew) (n : Nat) (write : Bool) : Except Exn Unit :=
  match e with
  | .reg _ => .error .ud
  | .mem m => s.checkMem m n write

/-- The word `k` bytes into a memory operand. -/
def State.memWord (s : State) (e : Ew) (k : Word) : Word :=
  match e with
  | .reg _ => 0
  | .mem m => s.peek16 (s.memSeg m) (s.ea m + k)

/-! ### `eb` and `ew` (30 R291) -/

/-- The checks of `eb`: none for a register. -/
def State.checkEb (s : State) (e : Eb) (write : Bool) : Except Exn Unit :=
  match e with
  | .reg _ => .ok ()
  | .mem m => s.checkMem m 1 write

/-- `ReadE(1)` after its check. -/
def State.getEb (s : State) (e : Eb) : Byte :=
  match e with
  | .reg r => s.reg8 r
  | .mem m => s.peek8 (s.memSeg m) (s.ea m)

/-- `WriteE(1, v)` after its check. -/
def State.putEb (s : State) (e : Eb) (v : Byte) : State :=
  match e with
  | .reg r => s.setReg8 r v
  | .mem m => s.poke8 (s.memSeg m) (s.ea m) v

/-- The checks of `ew`: none for a register. -/
def State.checkEw (s : State) (e : Ew) (write : Bool) : Except Exn Unit :=
  match e with
  | .reg _ => .ok ()
  | .mem m => s.checkMem m 2 write

/-- `ReadE(2)` after its check. -/
def State.getEw (s : State) (e : Ew) : Word :=
  match e with
  | .reg r => s.reg r
  | .mem m => s.peek16 (s.memSeg m) (s.ea m)

/-- `WriteE(2, v)` after its check. -/
def State.putEw (s : State) (e : Ew) (v : Word) : State :=
  match e with
  | .reg r => s.setReg r v
  | .mem m => s.poke16 (s.memSeg m) (s.ea m) v

/-! ### Updating an operand and the flags together -/

/-- `eb` and FLAGS replaced by a function of both (`RmwE` after its check). -/
def State.rmwEb (s : State) (e : Eb) (f : Byte → Flags → Byte × Flags) : State :=
  let x := f (s.getEb e) s.flags
  (s.putEb e x.1).setFlags x.2

/-- `ew` and FLAGS replaced by a function of both. -/
def State.rmwEw (s : State) (e : Ew) (f : Word → Flags → Word × Flags) : State :=
  let x := f (s.getEw e) s.flags
  (s.putEw e x.1).setFlags x.2

/-- The write-protect fault of ADC, SBB, RCL, RCR is raised with CF already replaced (60 R812); the spec does not say
by what: a free flag (log 16). `p` says that the operand is in memory and its segment is not writable. -/
def State.spoilCf (s : State) (p : Bool) : State :=
  if p then ({ s with flags := { s.flags with cf := Config.freeFlag s.draw .cf } }).drawn else s

/-- A memory operand in a usable segment that may not be written. -/
def State.protectedMem (s : State) (m : MemRef) : Bool :=
  s.segUsable (s.memSeg m) && !s.segRights (s.memSeg m) true

/-- The state in which a check of the destination `eb` of ADC, SBB, RCL or RCR raises its exception. -/
def State.carryFaultEb (s : State) (e : Eb) : State :=
  match e with
  | .reg _ => s
  | .mem m => s.spoilCf (s.protectedMem m)

/-- The state in which a check of the destination `ew` of ADC, SBB, RCL or RCR raises its exception. -/
def State.carryFaultEw (s : State) (e : Ew) : State :=
  match e with
  | .reg _ => s
  | .mem m => s.spoilCf (s.protectedMem m)

/-- The state in which RCL and RCR of `eb` by `count` raise the exception: a count of 0 moves no bit and no flag
(42 R449). -/
def State.rotateFaultEb (s : State) (count : Nat) (e : Eb) : State := if count = 0 then s else s.carryFaultEb e

/-- The state in which RCL and RCR of `ew` by `count` raise the exception. -/
def State.rotateFaultEw (s : State) (count : Nat) (e : Ew) : State := if count = 0 then s else s.carryFaultEw e

/-! ### Two-operand operations as functions of both operands and FLAGS -/

/-- ADD (41 R381). -/
def addOp {n : Nat} (b a : BitVec n) (f : Flags) : BitVec n × Flags := addF a b false f
/-- ADC (41 R382). -/
def adcOp {n : Nat} (b a : BitVec n) (f : Flags) : BitVec n × Flags := addF a b f.cf f
/-- SUB and CMP (41 R383, R385). -/
def subOp {n : Nat} (b a : BitVec n) (f : Flags) : BitVec n × Flags := subF a b false f
/-- SBB (41 R384). -/
def sbbOp {n : Nat} (b a : BitVec n) (f : Flags) : BitVec n × Flags := subF a b f.cf f
/-- AND and TEST (42 R441, R444); `d` numbers the draw of AF. -/
def andOp {n : Nat} (d : Nat) (b a : BitVec n) (f : Flags) : BitVec n × Flags := (a &&& b, logicF d (a &&& b) f)
/-- OR (42 R442). -/
def orOp {n : Nat} (d : Nat) (b a : BitVec n) (f : Flags) : BitVec n × Flags := (a ||| b, logicF d (a ||| b) f)
/-- XOR (42 R443). -/
def xorOp {n : Nat} (d : Nat) (b a : BitVec n) (f : Flags) : BitVec n × Flags := (a ^^^ b, logicF d (a ^^^ b) f)

/-! ### Traps made in another state, privilege, mode -/

/-- The checks, then the effect; a failed check raises its exception in `f`. -/
def attemptIn (f : State) (c : Except Exn Unit) (t : State) : Out :=
  match c with
  | .ok _ => .next t
  | .error e => .next (f.raise e)

/-- Trusted instructions: #GP(0) when CPL > IOPL in Protected Mode (60 R846). -/
def State.checkTrusted (s : State) : Except Exn Unit := require (!s.untrusted) (.gp 0)

/-- Privileged instructions: #GP(0) when CPL is not 0 in Protected Mode (60 R845). -/
def State.checkPrivileged (s : State) : Except Exn Unit := require (!s.unprivileged) (.gp 0)

/-- Instructions that Real Address Mode does not recognise: #UD (30 R287). -/
def State.checkPm (s : State) : Except Exn Unit := require s.msw.pe .ud

end Sys2Proof.Machine
end

