-- ==== Sys2Proof/Machine/Arithmetic.lean ====
section
/-!
DEFINITION. Arithmetic (41 R381-R405): ADD, ADC, SUB, SBB, CMP, INC, DEC, NEG, MUL, IMUL, DIV, IDIV, CBW, CWD and
the decimal adjustments.
-/

namespace Sys2Proof.Machine

/-- AX and FLAGS from a byte multiplication (41 R390, R391). -/
def State.setAxF (s : State) (x : Word × Flags) : State := (s.setReg .ax x.1).setFlags x.2

/-- DX, AX and FLAGS from a word multiplication (41 R390, R391). -/
def State.setDxAxF (s : State) (x : (Word × Word) × Flags) : State :=
  ((s.setReg .dx x.1.1).setReg .ax x.1.2).setFlags x.2

/-- DX:AX. -/
def State.dxAx (s : State) : BitVec 32 := s.reg .dx ++ s.reg .ax

/-- DIV of AX by a byte (41 R393). -/
def State.div8 (s : State) (v : Byte) : Option (Byte × Byte) := divU 8 (s.reg .ax).toNat v.toNat
/-- DIV of DX:AX by a word (41 R393). -/
def State.div16 (s : State) (v : Word) : Option (Word × Word) := divU 16 s.dxAx.toNat v.toNat
/-- IDIV of AX by a byte (41 R394). -/
def State.idiv8 (s : State) (v : Byte) : Option (Byte × Byte) := divS 8 (s.reg .ax).toInt v.toInt
/-- IDIV of DX:AX by a word (41 R394). -/
def State.idiv16 (s : State) (v : Word) : Option (Word × Word) := divS 16 s.dxAx.toInt v.toInt

/-- Quotient to AL, remainder to AH, FLAGS undefined. -/
def State.putDiv8 (s : State) (x : Option (Byte × Byte)) : State :=
  match x with
  | some (q, r) => (s.setReg .ax (wordOf r q)).setFlags (divFlags s.draw s.flags)
  | none => s

/-- Quotient to AX, remainder to DX, FLAGS undefined. -/
def State.putDiv16 (s : State) (x : Option (Word × Word)) : State :=
  match x with
  | some (q, r) => ((s.setReg .ax q).setReg .dx r).setFlags (divFlags s.draw s.flags)
  | none => s

/-- `ADD eb,rb`: 41 R381. -/
def execAddEbRb (e : Eb) (r : Reg8) (s : State) : Out :=
  attempt s (s.checkEb e true) (s.rmwEb e (addOp (s.reg8 r))).advance

/-- `ADD ew,rw`: 41 R381. -/
def execAddEwRw (e : Ew) (r : Reg16) (s : State) : Out :=
  attempt s (s.checkEw e true) (s.rmwEw e (addOp (s.reg r))).advance

/-- `ADD rb,eb`: 41 R381. -/
def execAddRbEb (r : Reg8) (e : Eb) (s : State) : Out :=
  attempt s (s.checkEb e false) (s.rmwEb (.reg r) (addOp (s.getEb e))).advance

/-- `ADD rw,ew`: 41 R381. -/
def execAddRwEw (r : Reg16) (e : Ew) (s : State) : Out :=
  attempt s (s.checkEw e false) (s.rmwEw (.reg r) (addOp (s.getEw e))).advance

/-- `ADD AL,db`: 41 R381. -/
def execAddAlDb (b : Byte) (s : State) : Out := .next (s.rmwEb (.reg .al) (addOp b)).advance

/-- `ADD AX,dw`: 41 R381. -/
def execAddAxDw (w : Word) (s : State) : Out := .next (s.rmwEw (.reg .ax) (addOp w)).advance

/-- `ADD eb,db`: 41 R381. -/
def execAddEbDb (e : Eb) (b : Byte) (s : State) : Out := attempt s (s.checkEb e true) (s.rmwEb e (addOp b)).advance

/-- `ADD ew,dw`: 41 R381. -/
def execAddEwDw (e : Ew) (w : Word) (s : State) : Out := attempt s (s.checkEw e true) (s.rmwEw e (addOp w)).advance

/-- `ADD ew,db`: 41 R381. -/
def execAddEwDb (e : Ew) (b : Byte) (s : State) : Out :=
  attempt s (s.checkEw e true) (s.rmwEw e (addOp (sext16 b))).advance

/-- `ADC eb,rb`: 41 R382. -/
def execAdcEbRb (e : Eb) (r : Reg8) (s : State) : Out :=
  attemptIn (s.carryFaultEb e) (s.checkEb e true) (s.rmwEb e (adcOp (s.reg8 r))).advance

/-- `ADC ew,rw`: 41 R382. -/
def execAdcEwRw (e : Ew) (r : Reg16) (s : State) : Out :=
  attemptIn (s.carryFaultEw e) (s.checkEw e true) (s.rmwEw e (adcOp (s.reg r))).advance

/-- `ADC rb,eb`: 41 R382. -/
def execAdcRbEb (r : Reg8) (e : Eb) (s : State) : Out :=
  attempt s (s.checkEb e false) (s.rmwEb (.reg r) (adcOp (s.getEb e))).advance

/-- `ADC rw,ew`: 41 R382. -/
def execAdcRwEw (r : Reg16) (e : Ew) (s : State) : Out :=
  attempt s (s.checkEw e false) (s.rmwEw (.reg r) (adcOp (s.getEw e))).advance

/-- `ADC AL,db`: 41 R382. -/
def execAdcAlDb (b : Byte) (s : State) : Out := .next (s.rmwEb (.reg .al) (adcOp b)).advance

/-- `ADC AX,dw`: 41 R382. -/
def execAdcAxDw (w : Word) (s : State) : Out := .next (s.rmwEw (.reg .ax) (adcOp w)).advance

/-- `ADC eb,db`: 41 R382. -/
def execAdcEbDb (e : Eb) (b : Byte) (s : State) : Out :=
  attemptIn (s.carryFaultEb e) (s.checkEb e true) (s.rmwEb e (adcOp b)).advance

/-- `ADC ew,dw`: 41 R382. -/
def execAdcEwDw (e : Ew) (w : Word) (s : State) : Out :=
  attemptIn (s.carryFaultEw e) (s.checkEw e true) (s.rmwEw e (adcOp w)).advance

/-- `ADC ew,db`: 41 R382. -/
def execAdcEwDb (e : Ew) (b : Byte) (s : State) : Out :=
  attemptIn (s.carryFaultEw e) (s.checkEw e true) (s.rmwEw e (adcOp (sext16 b))).advance

/-- `SBB eb,rb`: 41 R384. -/
def execSbbEbRb (e : Eb) (r : Reg8) (s : State) : Out :=
  attemptIn (s.carryFaultEb e) (s.checkEb e true) (s.rmwEb e (sbbOp (s.reg8 r))).advance

/-- `SBB ew,rw`: 41 R384. -/
def execSbbEwRw (e : Ew) (r : Reg16) (s : State) : Out :=
  attemptIn (s.carryFaultEw e) (s.checkEw e true) (s.rmwEw e (sbbOp (s.reg r))).advance

/-- `SBB rb,eb`: 41 R384. -/
def execSbbRbEb (r : Reg8) (e : Eb) (s : State) : Out :=
  attempt s (s.checkEb e false) (s.rmwEb (.reg r) (sbbOp (s.getEb e))).advance

/-- `SBB rw,ew`: 41 R384. -/
def execSbbRwEw (r : Reg16) (e : Ew) (s : State) : Out :=
  attempt s (s.checkEw e false) (s.rmwEw (.reg r) (sbbOp (s.getEw e))).advance

/-- `SBB AL,db`: 41 R384. -/
def execSbbAlDb (b : Byte) (s : State) : Out := .next (s.rmwEb (.reg .al) (sbbOp b)).advance

/-- `SBB AX,dw`: 41 R384. -/
def execSbbAxDw (w : Word) (s : State) : Out := .next (s.rmwEw (.reg .ax) (sbbOp w)).advance

/-- `SBB eb,db`: 41 R384. -/
def execSbbEbDb (e : Eb) (b : Byte) (s : State) : Out :=
  attemptIn (s.carryFaultEb e) (s.checkEb e true) (s.rmwEb e (sbbOp b)).advance

/-- `SBB ew,dw`: 41 R384. -/
def execSbbEwDw (e : Ew) (w : Word) (s : State) : Out :=
  attemptIn (s.carryFaultEw e) (s.checkEw e true) (s.rmwEw e (sbbOp w)).advance

/-- `SBB ew,db`: 41 R384. -/
def execSbbEwDb (e : Ew) (b : Byte) (s : State) : Out :=
  attemptIn (s.carryFaultEw e) (s.checkEw e true) (s.rmwEw e (sbbOp (sext16 b))).advance

/-- `SUB eb,rb`: 41 R383. -/
def execSubEbRb (e : Eb) (r : Reg8) (s : State) : Out :=
  attempt s (s.checkEb e true) (s.rmwEb e (subOp (s.reg8 r))).advance

/-- `SUB ew,rw`: 41 R383. -/
def execSubEwRw (e : Ew) (r : Reg16) (s : State) : Out :=
  attempt s (s.checkEw e true) (s.rmwEw e (subOp (s.reg r))).advance

/-- `SUB rb,eb`: 41 R383. -/
def execSubRbEb (r : Reg8) (e : Eb) (s : State) : Out :=
  attempt s (s.checkEb e false) (s.rmwEb (.reg r) (subOp (s.getEb e))).advance

/-- `SUB rw,ew`: 41 R383. -/
def execSubRwEw (r : Reg16) (e : Ew) (s : State) : Out :=
  attempt s (s.checkEw e false) (s.rmwEw (.reg r) (subOp (s.getEw e))).advance

/-- `SUB AL,db`: 41 R383. -/
def execSubAlDb (b : Byte) (s : State) : Out := .next (s.rmwEb (.reg .al) (subOp b)).advance

/-- `SUB AX,dw`: 41 R383. -/
def execSubAxDw (w : Word) (s : State) : Out := .next (s.rmwEw (.reg .ax) (subOp w)).advance

/-- `SUB eb,db`: 41 R383. -/
def execSubEbDb (e : Eb) (b : Byte) (s : State) : Out := attempt s (s.checkEb e true) (s.rmwEb e (subOp b)).advance

/-- `SUB ew,dw`: 41 R383. -/
def execSubEwDw (e : Ew) (w : Word) (s : State) : Out := attempt s (s.checkEw e true) (s.rmwEw e (subOp w)).advance

/-- `SUB ew,db`: 41 R383. -/
def execSubEwDb (e : Ew) (b : Byte) (s : State) : Out :=
  attempt s (s.checkEw e true) (s.rmwEw e (subOp (sext16 b))).advance

/-- `CMP eb,rb`: 41 R385. -/
def execCmpEbRb (e : Eb) (r : Reg8) (s : State) : Out :=
  attempt s (s.checkEb e false) (s.setFlags (subOp (s.reg8 r) (s.getEb e) s.flags).2).advance

/-- `CMP ew,rw`: 41 R385. -/
def execCmpEwRw (e : Ew) (r : Reg16) (s : State) : Out :=
  attempt s (s.checkEw e false) (s.setFlags (subOp (s.reg r) (s.getEw e) s.flags).2).advance

/-- `CMP rb,eb`: 41 R385. -/
def execCmpRbEb (r : Reg8) (e : Eb) (s : State) : Out :=
  attempt s (s.checkEb e false) (s.setFlags (subOp (s.getEb e) (s.reg8 r) s.flags).2).advance

/-- `CMP rw,ew`: 41 R385. -/
def execCmpRwEw (r : Reg16) (e : Ew) (s : State) : Out :=
  attempt s (s.checkEw e false) (s.setFlags (subOp (s.getEw e) (s.reg r) s.flags).2).advance

/-- `CMP AL,db`: 41 R385. -/
def execCmpAlDb (b : Byte) (s : State) : Out := .next (s.setFlags (subOp b (s.reg8 .al) s.flags).2).advance

/-- `CMP AX,dw`: 41 R385. -/
def execCmpAxDw (w : Word) (s : State) : Out := .next (s.setFlags (subOp w (s.reg .ax) s.flags).2).advance

/-- `CMP eb,db`: 41 R385. -/
def execCmpEbDb (e : Eb) (b : Byte) (s : State) : Out :=
  attempt s (s.checkEb e false) (s.setFlags (subOp b (s.getEb e) s.flags).2).advance

/-- `CMP ew,dw`: 41 R385. -/
def execCmpEwDw (e : Ew) (w : Word) (s : State) : Out :=
  attempt s (s.checkEw e false) (s.setFlags (subOp w (s.getEw e) s.flags).2).advance

/-- `CMP ew,db`: 41 R385. -/
def execCmpEwDb (e : Ew) (b : Byte) (s : State) : Out :=
  attempt s (s.checkEw e false) (s.setFlags (subOp (sext16 b) (s.getEw e) s.flags).2).advance

/-- `DAA`: 41 R400. -/
def execDaa (s : State) : Out := .next (s.rmwEb (.reg .al) (daaF s.draw)).advance.drawn

/-- `DAS`: 41 R401. -/
def execDas (s : State) : Out := .next (s.rmwEb (.reg .al) (dasF s.draw)).advance.drawn

/-- `AAA`: 41 R402. -/
def execAaa (s : State) : Out := .next (s.rmwEw (.reg .ax) (aaaF s.draw)).advance.drawn

/-- `AAS`: 41 R403. -/
def execAas (s : State) : Out := .next (s.rmwEw (.reg .ax) (aasF s.draw)).advance.drawn

/-- `AAM`: 41 R404. -/
def execAam (s : State) : Out := .next (s.rmwEw (.reg .ax) (aamF s.draw)).advance.drawn

/-- `AAD`: 41 R405. -/
def execAad (s : State) : Out := .next (s.rmwEw (.reg .ax) (aadF s.draw)).advance.drawn

/-- `INC rw`: 41 R386. -/
def execIncRw (r : Reg16) (s : State) : Out := .next (s.rmwEw (.reg r) incF).advance

/-- `DEC rw`: 41 R387. -/
def execDecRw (r : Reg16) (s : State) : Out := .next (s.rmwEw (.reg r) decF).advance

/-- `IMUL rw,ew,dw`: 41 R392. -/
def execImulRwEwDw (r : Reg16) (e : Ew) (w : Word) (s : State) : Out :=
  attempt s (s.checkEw e false) (s.rmwEw (.reg r) (fun _ f => imul3 s.draw (s.getEw e) w f)).advance.drawn

/-- `IMUL rw,ew,db`: 41 R392. -/
def execImulRwEwDb (r : Reg16) (e : Ew) (b : Byte) (s : State) : Out :=
  attempt s (s.checkEw e false) (s.rmwEw (.reg r) (fun _ f => imul3 s.draw (s.getEw e) (sext16 b) f)).advance.drawn

/-- `CBW`: 41 R396. -/
def execCbw (s : State) : Out := .next (s.setReg .ax (sext16 (s.reg8 .al))).advance

/-- `CWD`: 41 R397. -/
def execCwd (s : State) : Out := .next (s.setReg .dx (if (s.reg .ax).msb then 0xFFFF else 0)).advance

/-- `NEG eb`: 41 R388. -/
def execNegEb (e : Eb) (s : State) : Out := attempt s (s.checkEb e true) (s.rmwEb e negF).advance

/-- `MUL eb`: 41 R390. -/
def execMulEb (e : Eb) (s : State) : Out :=
  attempt s (s.checkEb e false) (s.setAxF (mul8 s.draw (s.reg8 .al) (s.getEb e) s.flags)).advance.drawn

/-- `IMUL eb`: 41 R391. -/
def execImulEb (e : Eb) (s : State) : Out :=
  attempt s (s.checkEb e false) (s.setAxF (imul8 s.draw (s.reg8 .al) (s.getEb e) s.flags)).advance.drawn

/-- `DIV eb`: 41 R393. -/
def execDivEb (e : Eb) (s : State) : Out :=
  attempt s (do s.checkEb e false; require (s.div8 (s.getEb e)).isSome .de)
    (s.putDiv8 (s.div8 (s.getEb e))).advance.drawn

/-- `IDIV eb`: 41 R394. -/
def execIdivEb (e : Eb) (s : State) : Out :=
  attempt s (do s.checkEb e false; require (s.idiv8 (s.getEb e)).isSome .de)
    (s.putDiv8 (s.idiv8 (s.getEb e))).advance.drawn

/-- `NEG ew`: 41 R388. -/
def execNegEw (e : Ew) (s : State) : Out := attempt s (s.checkEw e true) (s.rmwEw e negF).advance

/-- `MUL ew`: 41 R390. -/
def execMulEw (e : Ew) (s : State) : Out :=
  attempt s (s.checkEw e false) (s.setDxAxF (mul16 s.draw (s.reg .ax) (s.getEw e) s.flags)).advance.drawn

/-- `IMUL ew`: 41 R391. -/
def execImulEw (e : Ew) (s : State) : Out :=
  attempt s (s.checkEw e false) (s.setDxAxF (imul16 s.draw (s.reg .ax) (s.getEw e) s.flags)).advance.drawn

/-- `DIV ew`: 41 R393. -/
def execDivEw (e : Ew) (s : State) : Out :=
  attempt s (do s.checkEw e false; require (s.div16 (s.getEw e)).isSome .de)
    (s.putDiv16 (s.div16 (s.getEw e))).advance.drawn

/-- `IDIV ew`: 41 R394. -/
def execIdivEw (e : Ew) (s : State) : Out :=
  attempt s (do s.checkEw e false; require (s.idiv16 (s.getEw e)).isSome .de)
    (s.putDiv16 (s.idiv16 (s.getEw e))).advance.drawn

/-- `INC eb`: 41 R386. -/
def execIncEb (e : Eb) (s : State) : Out := attempt s (s.checkEb e true) (s.rmwEb e incF).advance

/-- `DEC eb`: 41 R387. -/
def execDecEb (e : Eb) (s : State) : Out := attempt s (s.checkEb e true) (s.rmwEb e decF).advance

/-- `INC ew`: 41 R386. -/
def execIncEw (e : Ew) (s : State) : Out := attempt s (s.checkEw e true) (s.rmwEw e incF).advance

/-- `DEC ew`: 41 R387. -/
def execDecEw (e : Ew) (s : State) : Out := attempt s (s.checkEw e true) (s.rmwEw e decF).advance

end Sys2Proof.Machine
end

