-- ==== Sys2Proof/Machine/Transfer.lean ====
section
/-!
DEFINITION. Control transfers shared by JMP, CALL and RET: near targets (44 R515), the far transfers of Real Address
Mode (44 R516, R532, R542) and of Protected Mode (47 R640-R661).
-/

namespace Sys2Proof.Machine

/-! ### Near targets (30 R281; 44 R510-R515) -/

/-- The target of a `cb` displacement. -/
def State.target8 (s : State) (b : Byte) : Word := s.nextIp + sext16 b

/-- The target of a `cw` displacement. -/
def State.target16 (s : State) (w : Word) : Word := s.nextIp + w

/-- The check of `NearJump`: #GP(0) beyond CS.limit in Protected Mode. -/
def State.checkNear (s : State) (t : Word) : Except Exn Unit :=
  require (!s.msw.pe || decide (t.toNat ≤ s.cs.limit.toNat)) (.gp 0)

/-- A conditional jump to `t`: the target is checked only when it is taken. -/
def State.checkIf (s : State) (c : Bool) (t : Word) : Except Exn Unit := if c then s.checkNear t else .ok ()

/-- IP after a conditional jump: a transfer, or normal completion. -/
def State.jumpIf (s : State) (c : Bool) (t : Word) : State := if c then s.setIp t else s.advance

/-- The checks of a near CALL to `t`: the stack, then the target (44 R530, 92 D26); in Real Address Mode a push at
offset FFFFH is shutdown (60 R806). -/
def State.checkCall (s : State) (t : Word) : Except Exn Unit := do
  require (s.stackRoom 1) (if s.msw.pe then .ss 0 else .shutdown)
  s.checkNear t

/-- A near CALL to `t` after its checks. -/
def State.callNear (s : State) (t : Word) : State := (s.push s.nextIp).setIp t

/-- The checks of a near RET (44 R540). -/
def State.checkRetNear (s : State) : Except Exn Unit := do
  s.check .ss (s.reg .sp) 2 false
  s.checkNear (s.stackWord 0)

/-- A near RET that releases `imm` bytes, after its checks (44 R540). -/
def State.retNear (s : State) (imm : Word) : State := (s.popBytes (2 + imm)).setIp (s.stackWord 0)

/-! ### Far transfers in Real Address Mode -/

/-- A far CALL in Real Address Mode (44 R532): a push that fails is shutdown, with the pushes before it done. -/
def State.callFarReal (s : State) (sel off : Word) : State :=
  match pushAllReal [s.cs.sel, s.nextIp] s with
  | .ok t => t.farJumpReal sel off
  | .error t => t.enterShutdown

/-- A far RET in Real Address Mode after its check (44 R542). -/
def State.retFarReal (s : State) (imm : Word) : State :=
  (s.popBytes (4 + imm)).farJumpReal (s.stackWord 2) (s.stackWord 0)

/-! ### Protected Mode: the destination's descriptor (47 R640-R644) -/

/-- The head of a far JMP or CALL: the selector names a descriptor (47 R640 steps 1, 2). -/
def State.checkFarSel (s : State) (sel : Word) : Except Exn Unit := do
  require (!selNull sel) (.gp 0)
  require (s.inTable sel) (.gp (selCode sel false))

/-- The privilege and presence tests on a code segment named directly (47 R641, R650). -/
def State.checkCodeSel (s : State) (sel : Word) : Except Exn Unit := do
  let d := s.desc sel
  require (arConforming d.access || decide ((selRpl sel).toNat ≤ s.cpl.toNat)) (.gp (selCode sel false))
  require (codeFits d.access s.cpl) (.gp (selCode sel false))
  require d.present (.np (selCode sel false))

/-- An offset within a code segment about to be loaded: else #GP(0). -/
def checkOffset (off : Word) (d : Desc) : Except Exn Unit := require (decide (off.toNat ≤ d.limit.toNat)) (.gp 0)

/-- The tests on a gate or TSS named by a JMP or CALL: DPL against CPL and RPL (47 R642, R643, R644, R651). -/
def State.checkUse (s : State) (sel : Word) (d : Desc) : Except Exn Unit := do
  require (decide (s.cpl.toNat ≤ d.dpl.toNat)) (.gp (selCode sel false))
  require (decide ((selRpl sel).toNat ≤ d.dpl.toNat)) (.gp (selCode sel false))

/-- The tests on a call gate and on the code segment it names, before the privilege test (47 R642, R651). -/
def State.checkCallGate (s : State) (sel : Word) : Except Exn Unit := do
  let g := s.desc sel
  s.checkUse sel g
  require g.present (.np (selCode sel false))
  s.checkFarSel g.gateSel
  require (arCode (s.desc g.gateSel).access) (.gp (selCode g.gateSel false))

/-- CS:IP at a code segment of the same level. -/
def State.enterCode (s : State) (sel off : Word) : State := (s.loadCs sel (s.desc sel) s.cpl).setIp off

/-- The tests of a JMP to a code segment (47 R641). -/
def State.checkJmpCode (s : State) (sel off : Word) : Except Exn Unit := do
  s.checkCodeSel sel
  checkOffset off (s.desc sel)

/-- The tests of a JMP through a call gate (47 R642). -/
def State.checkJmpGate (s : State) (sel : Word) : Except Exn Unit := do
  s.checkCallGate sel
  let g := s.desc sel
  let cd := s.desc g.gateSel
  require (codeFits cd.access s.cpl) (.gp (selCode g.gateSel false))
  require cd.present (.np (selCode g.gateSel false))
  checkOffset g.gateOffset cd

/-- A JMP or CALL through a task gate (47 R643, R654). -/
def State.farTaskGate (s : State) (sel : Word) (k : SwitchKind) : Except Trap State := do
  let g := s.desc sel
  onFail s (s.checkUse sel g)
  onFail s (require g.present (.np (selCode sel false)))
  onFail s (s.checkGateTask g.gateSel false)
  let t ← s.switchTasks g.gateSel (s.desc g.gateSel) k s.nextIp false
  t.checkTaskIp false

/-- The tests on a TSS named directly (47 R644, R655). -/
def State.checkTss (s : State) (sel : Word) : Except Exn Unit := do
  let d := s.desc sel
  require (!selTi sel) (.gp (selCode sel false))
  s.checkUse sel d
  require (arAvailTss d.access) (.gp (selCode sel false))
  require d.present (.np (selCode sel false))

/-- A JMP or CALL to a TSS (47 R644, R655). -/
def State.farTss (s : State) (sel : Word) (k : SwitchKind) : Except Trap State := do
  onFail s (s.checkTss sel)
  let t ← s.switchTasks sel (s.desc sel) k s.nextIp false
  t.checkTaskIp false

/-- `FarJmpProt(sel, off)` (47 R640). -/
def State.farJmpProt (s : State) (sel off : Word) : Except Trap State := do
  onFail s (s.checkFarSel sel)
  let ar := (s.desc sel).access
  if arCode ar then
    onFail s (s.checkJmpCode sel off)
    return s.enterCode sel off
  else if arType ar = 0x04 then
    onFail s (s.checkJmpGate sel)
    return s.enterCode (s.desc sel).gateSel (s.desc sel).gateOffset
  else if arType ar = 0x05 then s.farTaskGate sel .jmp
  else if arType ar = 0x01 ∨ arType ar = 0x03 then s.farTss sel .jmp
  else .error { st := s, exn := .gp (selCode sel false) }

/-! ### Protected Mode CALL (47 R650-R655) -/

/-- The return address pushed, then CS:IP at a code segment of the same level, with its descriptor as it was before the
pushes (47 R650, R652). -/
def State.callCode (s : State) (sel off : Word) : State :=
  (((s.push s.cs.sel).push s.nextIp).loadCs sel (s.desc sel) s.cpl).setIp off

/-- The tests of a CALL that stays at its level, after those on the selector (47 R650, R652). -/
def State.checkCallRoom (s : State) (sel off : Word) : Except Exn Unit := do
  require (s.stackRoom 2) (.ss 0)
  checkOffset off (s.desc sel)

/-- Pushes, one after the other. -/
def State.pushes : List Word → State → State
  | [], s => s
  | w :: t, s => State.pushes t (s.push w)

/-- The parameter words of a call gate, the last one first: `k` words from SS:SP (47 R653 steps 9, 15). -/
def State.params (s : State) : Nat → List Word
  | 0 => []
  | k + 1 => s.stackWord (BitVec.ofNat 16 (2 * k)) :: State.params s k

/-- The tests of a CALL through gate `sel` to more privilege, with inner stack `nss:nsp` (47 R653 steps 2-10). -/
def State.checkCallInner (s : State) (sel nss nsp : Word) : Except Exn Unit := do
  let g := s.desc sel
  let cd := s.desc g.gateSel
  s.checkSs nss cd.dpl (.ts 0) .ts false
  require (s.room ((s.desc nss).toSeg nss) nsp (4 + g.gateCount)) (.ss 0)
  if g.gateCount = 0 then .ok () else s.checkFrame g.gateCount
  checkOffset g.gateOffset cd

/-- A CALL through gate `sel` to more privilege, after its tests (47 R653 steps 11-16). -/
def State.callInner (s : State) (sel nss nsp : Word) : State :=
  let g := s.desc sel
  let cd := s.desc g.gateSel
  let t := ((s.switchStack nss nsp (s.desc nss)).loadCs g.gateSel cd cd.dpl).setIp g.gateOffset
  t.pushes ([s.ss.sel, s.reg .sp] ++ s.params g.gateCount ++ [s.cs.sel, s.nextIp])

/-- A CALL through a call gate (47 R651-R653). -/
def State.farCallGate (s : State) (sel : Word) : Except Exn State := do
  s.checkCallGate sel
  let g := s.desc sel
  let cd := s.desc g.gateSel
  require (decide (cd.dpl.toNat ≤ s.cpl.toNat)) (.gp (selCode g.gateSel false))
  require cd.present (.np (selCode g.gateSel false))
  if !arConforming cd.access && decide (cd.dpl.toNat < s.cpl.toNat) then
    let (nsp, nss) ← s.innerStack cd.dpl false
    s.checkCallInner sel nss nsp
    return s.callInner sel nss nsp
  else
    s.checkCallRoom g.gateSel g.gateOffset
    return s.callCode g.gateSel g.gateOffset

/-- `FarCallProt(sel, off)` (47 R640). -/
def State.farCallProt (s : State) (sel off : Word) : Except Trap State := do
  onFail s (s.checkFarSel sel)
  let ar := (s.desc sel).access
  if arCode ar then
    onFail s (s.checkCodeSel sel)
    onFail s (s.checkCallRoom sel off)
    return s.callCode sel off
  else if arType ar = 0x04 then onFail s (s.farCallGate sel)
  else if arType ar = 0x05 then s.farTaskGate sel .call
  else if arType ar = 0x01 ∨ arType ar = 0x03 then s.farTss sel .call
  else .error { st := s, exn := .gp (selCode sel false) }

/-! ### Protected Mode RET (47 R660, R661) -/

/-- The tests of a far RET to the same level (47 R660 steps 4-10). -/
def State.checkRetSame (s : State) (rcs : Word) : Except Exn Unit := do
  s.checkRetCs rcs s.cpl
  s.check .ss (s.reg .sp) 2 false
  checkOffset (s.stackWord 0) (s.desc rcs)

/-- A far RET to the same level after its tests (47 R660 step 11). -/
def State.retSame (s : State) (rcs imm : Word) : State := (s.enterCode rcs (s.stackWord 0)).popBytes (4 + imm)

/-- The top `8 + imm` bytes of the stack lie in the stack segment, as do the outer SP and SS (47 R661 steps 1, 7). For
an odd `imm` the rule does not say which words its step 1 tests: DESIGN CHOICE, the words from SP up, the last byte,
and the words of the outer SP and SS, all here and not at step 7 (log 39). -/
def State.checkOuterFrame (s : State) (imm : Word) : Except Exn Unit := do
  s.checkFrame ((8 + imm.toNat) / 2)
  require (s.inLimit s.ss (s.reg .sp + (7 + imm)) 1) (.ss 0)
  require (s.inLimit s.ss (s.reg .sp + (4 + imm)) 2 && s.inLimit s.ss (s.reg .sp + (6 + imm)) 2) (.ss 0)

/-- The tests of a far RET to an outer level (47 R661 steps 1-14). -/
def State.checkRetOuter (s : State) (rcs imm : Word) : Except Exn Unit := do
  s.checkOuterFrame imm
  s.checkRetCs rcs (selRpl rcs)
  s.checkSs (s.stackWord (6 + imm)) (selRpl rcs) (.gp 0) .gp false
  checkOffset (s.stackWord 0) (s.desc rcs)

/-- A far RET to an outer level after its tests (47 R661 steps 15-17). -/
def State.retOuter (s : State) (rcs imm : Word) : State :=
  s.applyOuter rcs (s.stackWord 0) (s.stackWord (6 + imm)) (s.stackWord (4 + imm) + imm)

/-- `FarRetProt(imm)` (47 R660 steps 1-3). -/
def State.farRetProt (s : State) (imm : Word) : Except Exn State := do
  s.check .ss (s.reg .sp + 2) 2 false
  let rcs := s.stackWord 2
  require (decide (s.cpl.toNat ≤ (selRpl rcs).toNat)) (.gp (selCode rcs false))
  if selRpl rcs = s.cpl then
    s.checkRetSame rcs
    return s.retSame rcs imm
  else
    s.checkRetOuter rcs imm
    return s.retOuter rcs imm

/-! ### The far transfers in either mode -/

/-- A far JMP to `sel:off` (44 R513). -/
def State.jmpFar (s : State) (sel off : Word) : Except Trap State :=
  if s.msw.pe then s.farJmpProt sel off else .ok (s.farJumpReal sel off)

/-- A far CALL to `sel:off` (44 R532). -/
def State.callFar (s : State) (sel off : Word) : Except Trap State :=
  if s.msw.pe then s.farCallProt sel off else .ok (s.callFarReal sel off)

/-- A far RET that releases `imm` bytes (44 R542). -/
def State.retFar (s : State) (imm : Word) : Except Exn State :=
  if s.msw.pe then s.farRetProt imm
  else do
    s.checkFrame 2
    return s.retFarReal imm

end Sys2Proof.Machine
end

