-- ==== Sys2Proof/Machine/Control.lean ====
section
/-!
DEFINITION. Control transfer (44 R510-R555).
-/

namespace Sys2Proof.Machine

/-- LOOP, LOOPE, LOOPNE (44 R523-R525): CX is decremented, and the jump is taken while it is not 0 and `z` holds; if
the taken target is beyond the limit, CX is not decremented. -/
def loopIf (s : State) (z : Bool) (b : Byte) : Out :=
  let c := s.reg .cx - 1
  let taken := (c != 0) && z
  attempt s (s.checkIf taken (s.target8 b)) ((s.setReg .cx c).jumpIf taken (s.target8 b))

/-- `JO cb`: 44 R520. -/
def execJoCb (b : Byte) (s : State) : Out :=
  attempt s (s.checkIf (s.flags.cond 0) (s.target8 b)) (s.jumpIf (s.flags.cond 0) (s.target8 b))

/-- `JNO cb`: 44 R520. -/
def execJnoCb (b : Byte) (s : State) : Out :=
  attempt s (s.checkIf (s.flags.cond 1) (s.target8 b)) (s.jumpIf (s.flags.cond 1) (s.target8 b))

/-- `JB cb`: 44 R520. -/
def execJbCb (b : Byte) (s : State) : Out :=
  attempt s (s.checkIf (s.flags.cond 2) (s.target8 b)) (s.jumpIf (s.flags.cond 2) (s.target8 b))

/-- `JAE cb`: 44 R520. -/
def execJaeCb (b : Byte) (s : State) : Out :=
  attempt s (s.checkIf (s.flags.cond 3) (s.target8 b)) (s.jumpIf (s.flags.cond 3) (s.target8 b))

/-- `JE cb`: 44 R520. -/
def execJeCb (b : Byte) (s : State) : Out :=
  attempt s (s.checkIf (s.flags.cond 4) (s.target8 b)) (s.jumpIf (s.flags.cond 4) (s.target8 b))

/-- `JNE cb`: 44 R520. -/
def execJneCb (b : Byte) (s : State) : Out :=
  attempt s (s.checkIf (s.flags.cond 5) (s.target8 b)) (s.jumpIf (s.flags.cond 5) (s.target8 b))

/-- `JBE cb`: 44 R520. -/
def execJbeCb (b : Byte) (s : State) : Out :=
  attempt s (s.checkIf (s.flags.cond 6) (s.target8 b)) (s.jumpIf (s.flags.cond 6) (s.target8 b))

/-- `JA cb`: 44 R520. -/
def execJaCb (b : Byte) (s : State) : Out :=
  attempt s (s.checkIf (s.flags.cond 7) (s.target8 b)) (s.jumpIf (s.flags.cond 7) (s.target8 b))

/-- `JS cb`: 44 R520. -/
def execJsCb (b : Byte) (s : State) : Out :=
  attempt s (s.checkIf (s.flags.cond 8) (s.target8 b)) (s.jumpIf (s.flags.cond 8) (s.target8 b))

/-- `JNS cb`: 44 R520. -/
def execJnsCb (b : Byte) (s : State) : Out :=
  attempt s (s.checkIf (s.flags.cond 9) (s.target8 b)) (s.jumpIf (s.flags.cond 9) (s.target8 b))

/-- `JP cb`: 44 R520. -/
def execJpCb (b : Byte) (s : State) : Out :=
  attempt s (s.checkIf (s.flags.cond 10) (s.target8 b)) (s.jumpIf (s.flags.cond 10) (s.target8 b))

/-- `JNP cb`: 44 R520. -/
def execJnpCb (b : Byte) (s : State) : Out :=
  attempt s (s.checkIf (s.flags.cond 11) (s.target8 b)) (s.jumpIf (s.flags.cond 11) (s.target8 b))

/-- `JL cb`: 44 R520. -/
def execJlCb (b : Byte) (s : State) : Out :=
  attempt s (s.checkIf (s.flags.cond 12) (s.target8 b)) (s.jumpIf (s.flags.cond 12) (s.target8 b))

/-- `JGE cb`: 44 R520. -/
def execJgeCb (b : Byte) (s : State) : Out :=
  attempt s (s.checkIf (s.flags.cond 13) (s.target8 b)) (s.jumpIf (s.flags.cond 13) (s.target8 b))

/-- `JLE cb`: 44 R520. -/
def execJleCb (b : Byte) (s : State) : Out :=
  attempt s (s.checkIf (s.flags.cond 14) (s.target8 b)) (s.jumpIf (s.flags.cond 14) (s.target8 b))

/-- `JG cb`: 44 R520. -/
def execJgCb (b : Byte) (s : State) : Out :=
  attempt s (s.checkIf (s.flags.cond 15) (s.target8 b)) (s.jumpIf (s.flags.cond 15) (s.target8 b))

/-- `CALL cd`: 44 R532. -/
def execCallCd (off : Word) (sel : Word) (s : State) : Out := finishT (s.callFar sel off)

/-- `RET dw`: 44 R540. -/
def execRetNearDw (w : Word) (s : State) : Out := attempt s s.checkRetNear (s.retNear w)

/-- `RET`: 44 R540. -/
def execRetNear (s : State) : Out := attempt s s.checkRetNear (s.retNear 0)

/-- `RET dw`: 44 R542. -/
def execRetFarDw (w : Word) (s : State) : Out := finish s (s.retFar w)

/-- `RET`: 44 R542. -/
def execRetFar (s : State) : Out := finish s (s.retFar 0)

/-- `INT 3`: 44 R550. -/
def execInt3 (s : State) : Out := .next (s.softInt 3)

/-- `INT db`: 44 R551. -/
def execIntDb (b : Byte) (s : State) : Out := .next (s.softInt b)

/-- `INTO`: 44 R552. -/
def execInto (s : State) : Out := .next (if s.flags.of then s.softInt 4 else s.advance)

/-- `IRET`: 44 R555. -/
def execIret (s : State) : Out := finishT s.iret

/-- `LOOPNE cb`: 44 R524. -/
def execLoopneCb (b : Byte) (s : State) : Out := loopIf s (!s.flags.zf) b

/-- `LOOPE cb`: 44 R525. -/
def execLoopeCb (b : Byte) (s : State) : Out := loopIf s s.flags.zf b

/-- `LOOP cb`: 44 R523. -/
def execLoopCb (b : Byte) (s : State) : Out := loopIf s true b

/-- `JCXZ cb`: 44 R522. -/
def execJcxzCb (b : Byte) (s : State) : Out :=
  attempt s (s.checkIf (s.reg .cx == 0) (s.target8 b)) (s.jumpIf (s.reg .cx == 0) (s.target8 b))

/-- `CALL cw`: 44 R530. -/
def execCallCw (w : Word) (s : State) : Out := attempt s (s.checkCall (s.target16 w)) (s.callNear (s.target16 w))

/-- `JMP cw`: 44 R511. -/
def execJmpCw (w : Word) (s : State) : Out := attempt s (s.checkNear (s.target16 w)) (s.setIp (s.target16 w))

/-- `JMP cd`: 44 R513. -/
def execJmpCd (off : Word) (sel : Word) (s : State) : Out := finishT (s.jmpFar sel off)

/-- `JMP cb`: 44 R510. -/
def execJmpCb (b : Byte) (s : State) : Out := attempt s (s.checkNear (s.target8 b)) (s.setIp (s.target8 b))

/-- `CALL ew`: 44 R531. -/
def execCallEw (e : Ew) (s : State) : Out :=
  attempt s (do s.checkEw e false; s.checkCall (s.getEw e)) (s.callNear (s.getEw e))

/-- `CALL ed`: 44 R533. -/
def execCallEd (e : Ew) (s : State) : Out :=
  finishT (do onFail s (s.checkM e 4 false); s.callFar (s.memWord e 2) (s.memWord e 0))

/-- `JMP ew`: 44 R512. -/
def execJmpEw (e : Ew) (s : State) : Out :=
  attempt s (do s.checkEw e false; s.checkNear (s.getEw e)) (s.setIp (s.getEw e))

/-- `JMP md`: 44 R514. -/
def execJmpMd (e : Ew) (s : State) : Out :=
  finishT (do onFail s (s.checkM e 4 false); s.jmpFar (s.memWord e 2) (s.memWord e 0))

end Sys2Proof.Machine
end

