-- ==== Sys2Proof/Machine/DataMovement.lean ====
section
/-!
DEFINITION. Data movement (40 R320-R352): MOV, PUSH, POP, XCHG, XLAT, LEA, LDS, LES.
-/

namespace Sys2Proof.Machine

/-- The interrupts held off after this instruction (10 R72). -/
def State.inhibit (s : State) (i : Inhibit) : State := { s with intInhibit := i }

/-- The check of a push (40 R330). -/
def State.checkPush (s : State) : Except Exn Unit := s.check .ss (s.spDown 2) 2 true

/-- The state in which a push raises its exception: in Real Address Mode SP is left decremented (92 D20). -/
def State.pushFault (s : State) : State := if s.msw.pe then s else s.setReg .sp (s.spDown 2)

/-- PUSH, PUSHF of a word (40 R330). -/
def pushVal (s : State) (v : Word) : Out := attemptIn s.pushFault s.checkPush (s.push v).advance

/-- PUSH of a memory word: the operand's checks come before the push (40 R330). -/
def pushMem (s : State) (e : Ew) : Out :=
  match s.checkM e 2 false with
  | .ok _ => pushVal s (s.memWord e 0)
  | .error x => .next (s.raise x)

/-- The check of a pop (40 R334): in Real Address Mode SP = FFFFH is shutdown (60 R806). -/
def State.checkPop (s : State) : Except Exn Unit :=
  if s.msw.pe then s.check .ss (s.reg .sp) 2 false
  else require (s.inLimit s.ss (s.reg .sp) 2) .shutdown

/-- A memory-only operand given as a register is #UD (30 R288 case 5). -/
def checkIsMem (e : Ew) : Except Exn Unit :=
  match e with
  | .reg _ => .error .ud
  | .mem _ => .ok ()

/-- The effective address of a memory operand (40 R350). -/
def State.eaOf (s : State) (e : Ew) : Word :=
  match e with
  | .reg _ => 0
  | .mem m => s.ea m

/-- The offset XLAT reads: BX + AL modulo 2^16 (40 R345). -/
def State.xlatOff (s : State) : Word := s.reg .bx + zext16 (s.reg8 .al)

/-- `PUSH ES`: 40 R330. -/
def execPushEs (s : State) : Out := pushVal s s.es.sel

/-- `PUSH CS`: 40 R330. -/
def execPushCs (s : State) : Out := pushVal s s.cs.sel

/-- `PUSH SS`: 40 R330. -/
def execPushSs (s : State) : Out := pushVal s s.ss.sel

/-- `PUSH DS`: 40 R330. -/
def execPushDs (s : State) : Out := pushVal s s.ds.sel

/-- `POP ES`: 40 R334. -/
def execPopEs (s : State) : Out :=
  attempt s (do s.checkPop; s.checkSreg .es (s.stackWord 0)) ((s.applySreg .es (s.stackWord 0)).popBytes 2).advance

/-- `POP SS`: 40 R334. -/
def execPopSs (s : State) : Out :=
  attempt s (do s.checkPop; s.checkSreg .ss (s.stackWord 0))
    (((s.applySreg .ss (s.stackWord 0)).popBytes 2).advance.inhibit .ss)

/-- `POP DS`: 40 R334. -/
def execPopDs (s : State) : Out :=
  attempt s (do s.checkPop; s.checkSreg .ds (s.stackWord 0)) ((s.applySreg .ds (s.stackWord 0)).popBytes 2).advance

/-- `PUSH rw`: 40 R330. -/
def execPushRw (r : Reg16) (s : State) : Out := pushVal s (s.reg r)

/-- `POP rw`: 40 R334. -/
def execPopRw (r : Reg16) (s : State) : Out := attempt s s.checkPop ((s.popBytes 2).setReg r (s.stackWord 0)).advance

/-- `PUSH dw`: 40 R331. -/
def execPushDw (w : Word) (s : State) : Out := pushVal s w

/-- `PUSH db`: 40 R331. -/
def execPushDb (b : Byte) (s : State) : Out := pushVal s (sext16 b)

/-- `XCHG eb,rb`: 40 R340. The write check comes before any access, so a fault leaves the register unchanged. -/
def execXchgEbRb (e : Eb) (r : Reg8) (s : State) : Out :=
  attempt s (s.checkEb e true) ((s.putEb e (s.reg8 r)).setReg8 r (s.getEb e)).advance

/-- `XCHG ew,rw`: 40 R340. -/
def execXchgEwRw (e : Ew) (r : Reg16) (s : State) : Out :=
  attempt s (s.checkEw e true) ((s.putEw e (s.reg r)).setReg r (s.getEw e)).advance

/-- `MOV eb,rb`: 40 R320. -/
def execMovEbRb (e : Eb) (r : Reg8) (s : State) : Out := attempt s (s.checkEb e true) (s.putEb e (s.reg8 r)).advance

/-- `MOV ew,rw`: 40 R320. -/
def execMovEwRw (e : Ew) (r : Reg16) (s : State) : Out := attempt s (s.checkEw e true) (s.putEw e (s.reg r)).advance

/-- `MOV rb,eb`: 40 R320. -/
def execMovRbEb (r : Reg8) (e : Eb) (s : State) : Out :=
  attempt s (s.checkEb e false) (s.setReg8 r (s.getEb e)).advance

/-- `MOV rw,ew`: 40 R320. -/
def execMovRwEw (r : Reg16) (e : Ew) (s : State) : Out :=
  attempt s (s.checkEw e false) (s.setReg r (s.getEw e)).advance

/-- `MOV ew,ES`: 40 R324. -/
def execMovEwEs (e : Ew) (s : State) : Out := attempt s (s.checkEw e true) (s.putEw e s.es.sel).advance

/-- `MOV ew,CS`: 40 R324. -/
def execMovEwCs (e : Ew) (s : State) : Out := attempt s (s.checkEw e true) (s.putEw e s.cs.sel).advance

/-- `MOV ew,SS`: 40 R324. -/
def execMovEwSs (e : Ew) (s : State) : Out := attempt s (s.checkEw e true) (s.putEw e s.ss.sel).advance

/-- `MOV ew,DS`: 40 R324. -/
def execMovEwDs (e : Ew) (s : State) : Out := attempt s (s.checkEw e true) (s.putEw e s.ds.sel).advance

/-- `LEA rw,m`: 40 R350. -/
def execLeaRwM (r : Reg16) (e : Ew) (s : State) : Out := attempt s (checkIsMem e) (s.setReg r (s.eaOf e)).advance

/-- `MOV ES,ew`: 40 R325. -/
def execMovEsEw (e : Ew) (s : State) : Out :=
  attempt s (do s.checkEw e false; s.checkSreg .es (s.getEw e)) (s.applySreg .es (s.getEw e)).advance

/-- `MOV SS,ew`: 40 R325. -/
def execMovSsEw (e : Ew) (s : State) : Out :=
  attempt s (do s.checkEw e false; s.checkSreg .ss (s.getEw e)) ((s.applySreg .ss (s.getEw e)).advance.inhibit .ss)

/-- `MOV DS,ew`: 40 R325. -/
def execMovDsEw (e : Ew) (s : State) : Out :=
  attempt s (do s.checkEw e false; s.checkSreg .ds (s.getEw e)) (s.applySreg .ds (s.getEw e)).advance

/-- `POP mw`: 40 R335. -/
def execPopMw (e : Ew) (s : State) : Out :=
  attempt s (do checkIsMem e; s.checkPop; s.checkM e 2 true) ((s.putEw e (s.stackWord 0)).popBytes 2).advance

/-- `XCHG AX,rw`: 40 R341. -/
def execXchgAxRw (r : Reg16) (s : State) : Out := .next ((s.setReg .ax (s.reg r)).setReg r (s.reg .ax)).advance

/-- `MOV AL,xb`: 40 R323. -/
def execMovAlXb (o : Word) (s : State) : Out :=
  attempt s (s.check (s.segOr .ds) o 1 false) (s.setReg8 .al (s.peek8 (s.segOr .ds) o)).advance

/-- `MOV AX,xw`: 40 R323. -/
def execMovAxXw (o : Word) (s : State) : Out :=
  attempt s (s.check (s.segOr .ds) o 2 false) (s.setReg .ax (s.peek16 (s.segOr .ds) o)).advance

/-- `MOV xb,AL`: 40 R323. -/
def execMovXbAl (o : Word) (s : State) : Out :=
  attempt s (s.check (s.segOr .ds) o 1 true) (s.poke8 (s.segOr .ds) o (s.reg8 .al)).advance

/-- `MOV xw,AX`: 40 R323. -/
def execMovXwAx (o : Word) (s : State) : Out :=
  attempt s (s.check (s.segOr .ds) o 2 true) (s.poke16 (s.segOr .ds) o (s.reg .ax)).advance

/-- `MOV rb,db`: 40 R322. -/
def execMovRbDb (r : Reg8) (b : Byte) (s : State) : Out := .next (s.setReg8 r b).advance

/-- `MOV rw,dw`: 40 R322. -/
def execMovRwDw (r : Reg16) (w : Word) (s : State) : Out := .next (s.setReg r w).advance

/-- `LES rw,ed`: 40 R352. -/
def execLesRwEd (r : Reg16) (e : Ew) (s : State) : Out :=
  attempt s (do s.checkM e 4 false; s.checkSreg .es (s.memWord e 2))
    ((s.applySreg .es (s.memWord e 2)).setReg r (s.memWord e 0)).advance

/-- `LDS rw,ed`: 40 R352. -/
def execLdsRwEd (r : Reg16) (e : Ew) (s : State) : Out :=
  attempt s (do s.checkM e 4 false; s.checkSreg .ds (s.memWord e 2))
    ((s.applySreg .ds (s.memWord e 2)).setReg r (s.memWord e 0)).advance

/-- `MOV eb,db`: 40 R321. -/
def execMovEbDb (e : Eb) (b : Byte) (s : State) : Out := attempt s (s.checkEb e true) (s.putEb e b).advance

/-- `MOV ew,dw`: 40 R321. -/
def execMovEwDw (e : Ew) (w : Word) (s : State) : Out := attempt s (s.checkEw e true) (s.putEw e w).advance

/-- `XLATB`: 40 R345. -/
def execXlatb (s : State) : Out :=
  attempt s (s.check (s.segOr .ds) s.xlatOff 1 false)
    (s.setReg8 .al (s.peek8 (s.segOr .ds) s.xlatOff)).advance

/-- `PUSH mw`: 40 R330. -/
def execPushMw (e : Ew) (s : State) : Out := pushMem s e

end Sys2Proof.Machine
end

