-- ==== Sys2Proof/Machine/FlagMisc.lean ====
section
/-!
DEFINITION. Flag control and processor control (45 R570-R599): CLC to POPF, NOP, HLT, WAIT, ESC.
-/

namespace Sys2Proof.Machine

/-- FLAGS after POPF of `w` (45 R581). -/
def State.popFlags (s : State) (w : Word) : Flags :=
  if s.msw.pe then s.flags.loadProt s.cpl w else s.flags.loadReal w

/-- The processor extension's pins changed. -/
def State.setExt (s : State) (x : Ext) : State := { s with env := { s.env with ext := x } }

/-! ### Operand transfers of the processor extension (45 R598; log 21) -/

/-- The checks of the next word of the extension's operand, against what the ESC left. -/
def State.extWordOk (s : State) (o : ExtOperand) : Bool :=
  decide (o.off + 2 ≤ 0x10000) && s.inLimit o.seg (BitVec.ofNat 16 o.off) 2 &&
    (!s.msw.pe || (o.seg.valid && (if Config.escWrites o.op then o.seg.writable else o.seg.readable)))

/-- The transfer of one word between memory and port 00FAH. -/
def State.extMove (s : State) (o : ExtOperand) : State :=
  let a := o.seg.base + BitVec.ofNat 24 o.off
  if Config.escWrites o.op then (s.afterPortWord 0x00FA).writeWord a (s.portWord 0x00FA)
  else s.outWord 0x00FA (s.readWord a)

/-- One PEREQ served, if one is pending and an ESC has left an operand. A word outside the segment is not transferred
and makes vector 9 pending; it ends the operand, with the requests for the rest of it (60 R810), and leaves the extension
waiting for data. -/
def State.serviceExt (s : State) : State :=
  match s.extOp with
  | none => s
  | some o =>
    if s.env.ext.pereq = 0 then s
    else if s.extWordOk o then
      { (s.setExt { s.env.ext with pereq := s.env.ext.pereq - 1 }).extMove o with
        extOp := some { o with off := o.off + 2 } }
    else { s.setExt { s.env.ext with pereq := 0, held := true } with peOverrun := true, extOp := none }

/-- At most `k` PEREQs served. -/
def serviceLoop : Nat → State → State
  | 0, s => s
  | k + 1, s => serviceLoop k s.serviceExt

/-- Every PEREQ served that is outstanding for the operand of the last ESC. -/
def State.serviceAll (s : State) : State := serviceLoop s.env.ext.pereq s

/-! ### WAIT and ESC (45 R594-R596) -/

/-- WAIT (45 R594): while BUSY is active the step leaves IP at the WAIT and takes one sample of BUSY (log 19). An
extension that waits for data after an overrun keeps BUSY active (45 R598; log 41). -/
def waitExt (s : State) : Out :=
  if s.msw.mp && s.msw.ts then .next (s.raise .nm)
  else if s.env.ext.busyFor = 0 ∧ s.env.ext.held = false then
    attempt s (require (s.msw.em || !s.env.ext.error) .mf) s.advance
  else
    .next { s.setExt { s.env.ext with busyFor := s.env.ext.busyFor - 1 } with waiting := .wait }

/-- The check of an ESC's memory operand: its first word (45 R596). -/
def State.checkEsc (s : State) (op : BitVec 6) (e : Ew) : Except Exn Unit :=
  match e with
  | .reg _ => .ok ()
  | .mem m => s.checkMem m 2 (Config.escWrites op)

/-- The operand an ESC leaves for the transfers of 45 R598. -/
def State.escOperand (s : State) (op : BitVec 6) (e : Ew) : Option ExtOperand :=
  match e with
  | .reg _ => none
  | .mem m => some { seg := s.seg (s.memSeg m), off := (s.ea m).toNat, op := op }

/-- The ESC is FNINIT, which an extension that waits for data still executes (45 R598; log 41). -/
def State.isFninit (s : State) (op : BitVec 6) (e : Ew) : Bool := s.env.ext.fninit.contains (op, e)

/-- The memory operand of an ESC, as it is handed to the extension. -/
def State.escAddress (s : State) (e : Ew) : Option EscOperand :=
  match e with
  | .reg _ => none
  | .mem m => some { sel := (s.seg (s.memSeg m)).sel, off := s.ea m, addr := s.linear (s.memSeg m) (s.ea m) }

/-- What the extension is given of an ESC (45 R596; log 20). -/
def State.escCall (s : State) (op : BitVec 6) (e : Ew) : EscCall :=
  { op := op, e := e, cs := s.cs.sel, ip := s.ip, operand := s.escAddress e }

/-- The ESC is handed to the extension (45 R596; log 20); with none attached it does nothing (93 U14). FNINIT ends the
extension's wait for data. -/
def State.handEsc (s : State) (op : BitVec 6) (e : Ew) : State :=
  if s.env.ext.present then
    { (s.setExt { s.env.ext with held := s.env.ext.held && !s.isFninit op e }).logIo (.escape (s.escCall op e)) with
      extOp := s.escOperand op e }
  else s

/-- The ESC tests neither BUSY nor ERROR (45 R596). -/
def State.escUntested (s : State) (op : BitVec 6) (e : Ew) : Bool :=
  s.env.ext.noErrorTest.contains op || s.isFninit op e

/-- BUSY sampled until it is inactive (45 R596; log 19). -/
def State.drainBusy (s : State) : State := s.setExt { s.env.ext with busyFor := 0 }

/-- The state after the BUSY wait of an ESC, if it waits. The words still requested for the operand of the ESC before
are moved first, inside this one (45 R598; log 21). -/
def State.afterBusy (s : State) (op : BitVec 6) (e : Ew) : State :=
  if s.escUntested op e then s.serviceAll else s.serviceAll.drainBusy

/-- The extension waits for data after an overrun, and the ESC is not FNINIT: it cannot be executed (45 R598). -/
def State.escHeld (s : State) (op : BitVec 6) (e : Ew) : Bool := s.env.ext.held && !s.isFninit op e

/-- ESC (45 R596): #NM, the operand's check, the extension's wait for data, during which the step leaves IP at the ESC
(log 41), the wait for BUSY, #MF, then the extension. -/
def escExt (s : State) (op : BitVec 6) (e : Ew) : Out :=
  if s.msw.em || s.msw.ts then .next (s.raise .nm)
  else
    match s.checkEsc op e with
    | .error x => .next (s.raise x)
    | .ok _ =>
      if s.serviceAll.escHeld op e then .next { s.serviceAll with waiting := .esc }
      else
        attempt (s.afterBusy op e) (require (s.escUntested op e || !s.env.ext.error) .mf)
          ((s.afterBusy op e).handEsc op e).advance

/-- `NOP`: 45 R590. -/
def execNop (s : State) : Out := .next s.advance

/-- `WAIT`: 45 R594. -/
def execWait (s : State) : Out := waitExt s

/-- `PUSHF`: 45 R580. -/
def execPushf (s : State) : Out := pushVal s s.flags.toWord

/-- `POPF`: 45 R581. -/
def execPopf (s : State) : Out :=
  attempt s (s.check .ss (s.reg .sp) 2 false) ((s.popBytes 2).setFlags (s.popFlags (s.stackWord 0))).advance

/-- `SAHF`: 45 R578. -/
def execSahf (s : State) : Out := .next (s.setFlags (s.flags.loadLow (s.reg8 .ah))).advance

/-- `LAHF`: 45 R579. -/
def execLahf (s : State) : Out := .next (s.setReg8 .ah s.flags.toWord.lo).advance

/-- `ESC TTT LLL, e`: 45 R596. -/
def execEsc (op : BitVec 6) (e : Ew) (s : State) : Out := escExt s op e

/-- `HLT`: 45 R591. -/
def execHlt (s : State) : Out := attempt s s.checkPrivileged { s.advance with run := .halted }

/-- `CMC`: 45 R572. -/
def execCmc (s : State) : Out := .next (s.setFlags { s.flags with cf := !s.flags.cf }).advance

/-- `CLC`: 45 R570. -/
def execClc (s : State) : Out := .next (s.setFlags { s.flags with cf := false }).advance

/-- `STC`: 45 R571. -/
def execStc (s : State) : Out := .next (s.setFlags { s.flags with cf := true }).advance

/-- `CLI`: 45 R575. -/
def execCli (s : State) : Out := attempt s s.checkTrusted (s.setFlags { s.flags with ief := false }).advance

/-- `STI`: 45 R576. -/
def execSti (s : State) : Out :=
  attempt s s.checkTrusted ((s.setFlags { s.flags with ief := true }).inhibit .sti).advance

/-- `CLD`: 45 R573. -/
def execCld (s : State) : Out := .next (s.setFlags { s.flags with df := false }).advance

/-- `STD`: 45 R574. -/
def execStd (s : State) : Out := .next (s.setFlags { s.flags with df := true }).advance

end Sys2Proof.Machine
end

