-- ==== Sys2Proof/Machine/Invalid.lean ====
section
/-!
DEFINITION. The invalid encodings of 30 R288: #UD, and #GP(0) for 8F /1 to /7 and FF /7.
-/

namespace Sys2Proof.Machine

/-- `#UD`, 83 /1 db: 30 R288. -/
def execUd83_1 (s : State) : Out := .next (s.raise .ud)

/-- `#UD`, 83 /4 db: 30 R288. -/
def execUd83_4 (s : State) : Out := .next (s.raise .ud)

/-- `#UD`, 83 /6 db: 30 R288. -/
def execUd83_6 (s : State) : Out := .next (s.raise .ud)

/-- `#UD`, 0F: 30 R288. -/
def execUd0F (_b : Byte) (s : State) : Out := .next (s.raise .ud)

/-- `#UD`, 64: 30 R288. -/
def execUd64 (s : State) : Out := .next (s.raise .ud)

/-- `#UD`, 65: 30 R288. -/
def execUd65 (s : State) : Out := .next (s.raise .ud)

/-- `#UD`, 66: 30 R288. -/
def execUd66 (s : State) : Out := .next (s.raise .ud)

/-- `#UD`, 67: 30 R288. -/
def execUd67 (s : State) : Out := .next (s.raise .ud)

/-- `#UD`, 82: 30 R288. -/
def execUd82 (s : State) : Out := .next (s.raise .ud)

/-- `#UD`, 8C /4: 30 R288. -/
def execUd8C_4 (s : State) : Out := .next (s.raise .ud)

/-- `#UD`, 8C /5: 30 R288. -/
def execUd8C_5 (s : State) : Out := .next (s.raise .ud)

/-- `#UD`, 8C /6: 30 R288. -/
def execUd8C_6 (s : State) : Out := .next (s.raise .ud)

/-- `#UD`, 8C /7: 30 R288. -/
def execUd8C_7 (s : State) : Out := .next (s.raise .ud)

/-- `#UD`, 8E /1: 30 R288. -/
def execUd8E_1 (s : State) : Out := .next (s.raise .ud)

/-- `#UD`, 8E /4: 30 R288. -/
def execUd8E_4 (s : State) : Out := .next (s.raise .ud)

/-- `#UD`, 8E /5: 30 R288. -/
def execUd8E_5 (s : State) : Out := .next (s.raise .ud)

/-- `#UD`, 8E /6: 30 R288. -/
def execUd8E_6 (s : State) : Out := .next (s.raise .ud)

/-- `#UD`, 8E /7: 30 R288. -/
def execUd8E_7 (s : State) : Out := .next (s.raise .ud)

/-- `#GP(0)`, 8F /1: 30 R288. -/
def execGp8F_1 (s : State) : Out := .next (s.raise (.gp 0))

/-- `#GP(0)`, 8F /2: 30 R288. -/
def execGp8F_2 (s : State) : Out := .next (s.raise (.gp 0))

/-- `#GP(0)`, 8F /3: 30 R288. -/
def execGp8F_3 (s : State) : Out := .next (s.raise (.gp 0))

/-- `#GP(0)`, 8F /4: 30 R288. -/
def execGp8F_4 (s : State) : Out := .next (s.raise (.gp 0))

/-- `#GP(0)`, 8F /5: 30 R288. -/
def execGp8F_5 (s : State) : Out := .next (s.raise (.gp 0))

/-- `#GP(0)`, 8F /6: 30 R288. -/
def execGp8F_6 (s : State) : Out := .next (s.raise (.gp 0))

/-- `#GP(0)`, 8F /7: 30 R288. -/
def execGp8F_7 (s : State) : Out := .next (s.raise (.gp 0))

/-- `#UD`, C0 /6 db: 30 R288. -/
def execUdC0_6 (s : State) : Out := .next (s.raise .ud)

/-- `#UD`, C1 /6 db: 30 R288. -/
def execUdC1_6 (s : State) : Out := .next (s.raise .ud)

/-- `#UD`, D0 /6: 30 R288. -/
def execUdD0_6 (s : State) : Out := .next (s.raise .ud)

/-- `#UD`, D1 /6: 30 R288. -/
def execUdD1_6 (s : State) : Out := .next (s.raise .ud)

/-- `#UD`, D2 /6: 30 R288. -/
def execUdD2_6 (s : State) : Out := .next (s.raise .ud)

/-- `#UD`, D3 /6: 30 R288. -/
def execUdD3_6 (s : State) : Out := .next (s.raise .ud)

/-- `#UD`, C6 /1: 30 R288. -/
def execUdC6_1 (s : State) : Out := .next (s.raise .ud)

/-- `#UD`, C6 /2: 30 R288. -/
def execUdC6_2 (s : State) : Out := .next (s.raise .ud)

/-- `#UD`, C6 /3: 30 R288. -/
def execUdC6_3 (s : State) : Out := .next (s.raise .ud)

/-- `#UD`, C6 /4: 30 R288. -/
def execUdC6_4 (s : State) : Out := .next (s.raise .ud)

/-- `#UD`, C6 /5: 30 R288. -/
def execUdC6_5 (s : State) : Out := .next (s.raise .ud)

/-- `#UD`, C6 /6: 30 R288. -/
def execUdC6_6 (s : State) : Out := .next (s.raise .ud)

/-- `#UD`, C6 /7: 30 R288. -/
def execUdC6_7 (s : State) : Out := .next (s.raise .ud)

/-- `#UD`, C7 /1: 30 R288. -/
def execUdC7_1 (s : State) : Out := .next (s.raise .ud)

/-- `#UD`, C7 /2: 30 R288. -/
def execUdC7_2 (s : State) : Out := .next (s.raise .ud)

/-- `#UD`, C7 /3: 30 R288. -/
def execUdC7_3 (s : State) : Out := .next (s.raise .ud)

/-- `#UD`, C7 /4: 30 R288. -/
def execUdC7_4 (s : State) : Out := .next (s.raise .ud)

/-- `#UD`, C7 /5: 30 R288. -/
def execUdC7_5 (s : State) : Out := .next (s.raise .ud)

/-- `#UD`, C7 /6: 30 R288. -/
def execUdC7_6 (s : State) : Out := .next (s.raise .ud)

/-- `#UD`, C7 /7: 30 R288. -/
def execUdC7_7 (s : State) : Out := .next (s.raise .ud)

/-- `#UD`, D6: 30 R288. -/
def execUdD6 (s : State) : Out := .next (s.raise .ud)

/-- `#UD`, F1: 30 R288. -/
def execUdF1 (s : State) : Out := .next (s.raise .ud)

/-- `#UD`, F6 /1: 30 R288. -/
def execUdF6_1 (s : State) : Out := .next (s.raise .ud)

/-- `#UD`, F7 /1: 30 R288. -/
def execUdF7_1 (s : State) : Out := .next (s.raise .ud)

/-- `#UD`, FE /2: 30 R288. -/
def execUdFE_2 (s : State) : Out := .next (s.raise .ud)

/-- `#UD`, FE /3: 30 R288. -/
def execUdFE_3 (s : State) : Out := .next (s.raise .ud)

/-- `#UD`, FE /4: 30 R288. -/
def execUdFE_4 (s : State) : Out := .next (s.raise .ud)

/-- `#UD`, FE /5: 30 R288. -/
def execUdFE_5 (s : State) : Out := .next (s.raise .ud)

/-- `#UD`, FE /6: 30 R288. -/
def execUdFE_6 (s : State) : Out := .next (s.raise .ud)

/-- `#UD`, FE /7: 30 R288. -/
def execUdFE_7 (s : State) : Out := .next (s.raise .ud)

/-- `#GP(0)`, FF /7: 30 R288. -/
def execGpFF_7 (s : State) : Out := .next (s.raise (.gp 0))

/-- `#UD`, 0F 00 /6: 30 R288. -/
def execUd0F00_6 (s : State) : Out := .next (s.raise .ud)

/-- `#UD`, 0F 00 /7: 30 R288. -/
def execUd0F00_7 (s : State) : Out := .next (s.raise .ud)

/-- `#UD`, 0F 01 /5: 30 R288. -/
def execUd0F01_5 (s : State) : Out := .next (s.raise .ud)

/-- `#UD`, 0F 01 /7: 30 R288. -/
def execUd0F01_7 (s : State) : Out := .next (s.raise .ud)

end Sys2Proof.Machine
end

