-- ==== Sys2Proof/Machine/IoExtended.lean ====
section
/-!
DEFINITION. Input and output (46 R610-R612) and the extended instructions (46 R620-R625). INS and OUTS are with the
strings.
-/

namespace Sys2Proof.Machine

/-- IN AL (46 R611). -/
def State.inByte (s : State) (p : Word) : State := (s.afterPortByte p).setReg8 .al (s.portByte p)

/-- IN AX (46 R611). -/
def State.inWord (s : State) (p : Word) : State := (s.afterPortWord p).setReg .ax (s.portWord p)

/-- SP after a PUSHA or POPA that wraps: one of the four values of 93 U5 (log 14). -/
def wrapSp (c : BitVec 2) : Word :=
  match c.toNat with
  | 0 => 0x0000 | 1 => 0x0001 | 2 => 0xFFFE | _ => 0xFFFF

/-- A PUSHA or POPA that fails part-way: what it has done stays, SP is one of four values (93 U5; log 14). -/
def State.wrapFault (s : State) : State :=
  ((s.setReg .sp (wrapSp (Config.freeCase s.draw))).drawn).raise (s.segFault .ss)

/-- A word of the stack segment lies inside it. -/
def State.stackWordIn (s : State) (off : Word) : Bool := s.segUsable .ss && s.inLimit s.ss off 2

/-- The test of both ends of the block, Protected Mode only (46 R620, R621). -/
def State.checkEnds (s : State) (a b : Word) : Except Exn Unit :=
  require (!s.msw.pe || (s.stackWordIn a && s.stackWordIn b)) (.ss 0)

/-- The words PUSHA pushes, in order: SP as it was (46 R620). -/
def State.pushaWords (s : State) : List Word :=
  [s.reg .ax, s.reg .cx, s.reg .dx, s.reg .bx, s.reg .sp, s.reg .bp, s.reg .si, s.reg .di]

/-- Pushes until one fails. -/
def pushUntil : List Word → State → Except State State
  | [], s => .ok s
  | w :: t, s =>
    match s.check .ss (s.spDown 2) 2 true with
    | .ok _ => pushUntil t (s.push w)
    | .error _ => .error s

/-- PUSHA (46 R620). -/
def pushAll (s : State) : Out :=
  match s.checkEnds (s.spDown 2) (s.spDown 16) with
  | .error x => .next (s.raise x)
  | .ok _ =>
    match pushUntil s.pushaWords s with
    | .ok t => .next t.advance
    | .error t => .next t.wrapFault

/-- The registers POPA pops, in order: the SP slot is discarded (46 R621). -/
def popaRegs : List (Option Reg16) :=
  [some .di, some .si, some .bp, none, some .bx, some .dx, some .cx, some .ax]

/-- One pop into a register, or into nothing. -/
def State.popInto (s : State) (r : Option Reg16) : State :=
  let t := s.popBytes 2
  match r with
  | some q => t.setReg q (s.stackWord 0)
  | none => t

/-- Pops until one fails. -/
def popUntil : List (Option Reg16) → State → Except State State
  | [], s => .ok s
  | r :: t, s =>
    match s.check .ss (s.reg .sp) 2 false with
    | .ok _ => popUntil t (s.popInto r)
    | .error _ => .error s

/-- POPA (46 R621). -/
def popAll (s : State) : Out :=
  match s.checkEnds (s.reg .sp) (s.reg .sp + 14) with
  | .error x => .next (s.raise x)
  | .ok _ =>
    match popUntil popaRegs s with
    | .ok t => .next t.advance
    | .error t => .next t.wrapFault

/-- The register lies between the two signed bounds, both included (46 R622). -/
def State.inBounds (s : State) (r : Reg16) (e : Ew) : Bool :=
  decide ((s.memWord e 0).toInt ≤ (s.reg r).toInt) && decide ((s.reg r).toInt ≤ (s.memWord e 2).toInt)

/-- `L`: the level modulo 32 (46 R624). -/
def enterLevel (b : Byte) : Nat := b.toNat % 32

/-- SP after ENTER. -/
def State.enterSp (s : State) (w : Word) (b : Byte) : Word := s.spDown (BitVec.ofNat 16 (2 + 2 * enterLevel b)) - w

/-- Every check of ENTER, before its first push (46 R624, 92 D29): the words pushed, the words copied, and in Protected
Mode the word at the final SP. -/
def State.checkEnter (s : State) (w : Word) (b : Byte) : Except Exn Unit :=
  require
    (s.stackRoom (1 + enterLevel b) &&
      allBelow (enterLevel b - 1) (fun i => s.inLimit s.ss (s.reg .bp - BitVec.ofNat 16 (2 * (i + 1))) 2) &&
      (!s.msw.pe || s.inLimit s.ss (s.enterSp w b) 2))
    (s.segFault .ss)

/-- The display: `k` words copied from below `t` (46 R624). -/
def enterCopy : Nat → Word → State → State
  | 0, _, s => s
  | k + 1, t, s => enterCopy k (t - 2) (s.push (s.peek16 .ss (t - 2)))

/-- ENTER after its checks (46 R624). -/
def State.enter (s : State) (w : Word) (b : Byte) : State :=
  let f := s.spDown 2
  let s1 := s.push (s.reg .bp)
  let s2 := if enterLevel b = 0 then s1 else (enterCopy (enterLevel b - 1) (s.reg .bp) s1).push f
  (s2.setReg .bp f).setReg .sp (s2.reg .sp - w)

/-- LEAVE after its check (46 R625). -/
def State.leave (s : State) : State := (s.setReg .sp (s.reg .bp + 2)).setReg .bp (s.peek16 .ss (s.reg .bp))

/-- `PUSHA`: 46 R620. -/
def execPusha (s : State) : Out := pushAll s

/-- `POPA`: 46 R621. -/
def execPopa (s : State) : Out := popAll s

/-- `BOUND rw,md`: 46 R622. -/
def execBoundRwMd (r : Reg16) (e : Ew) (s : State) : Out :=
  attempt s (do s.checkM e 4 false; require (s.inBounds r e) .br) s.advance

/-- `ENTER dw,db`: 46 R624. -/
def execEnterDwDb (w : Word) (b : Byte) (s : State) : Out := attempt s (s.checkEnter w b) (s.enter w b).advance

/-- `LEAVE`: 46 R625. -/
def execLeave (s : State) : Out := attempt s (s.check .ss (s.reg .bp) 2 false) s.leave.advance

/-- `IN AL,db`: 46 R611. -/
def execInAlDb (b : Byte) (s : State) : Out := attempt s s.checkTrusted (s.inByte (zext16 b)).advance

/-- `IN AX,db`: 46 R611. -/
def execInAxDb (b : Byte) (s : State) : Out := attempt s s.checkTrusted (s.inWord (zext16 b)).advance

/-- `OUT db,AL`: 46 R612. -/
def execOutDbAl (b : Byte) (s : State) : Out := attempt s s.checkTrusted (s.outByte (zext16 b) (s.reg8 .al)).advance

/-- `OUT db,AX`: 46 R612. -/
def execOutDbAx (b : Byte) (s : State) : Out := attempt s s.checkTrusted (s.outWord (zext16 b) (s.reg .ax)).advance

/-- `IN AL,DX`: 46 R611. -/
def execInAlDx (s : State) : Out := attempt s s.checkTrusted (s.inByte (s.reg .dx)).advance

/-- `IN AX,DX`: 46 R611. -/
def execInAxDx (s : State) : Out := attempt s s.checkTrusted (s.inWord (s.reg .dx)).advance

/-- `OUT DX,AL`: 46 R612. -/
def execOutDxAl (s : State) : Out := attempt s s.checkTrusted (s.outByte (s.reg .dx) (s.reg8 .al)).advance

/-- `OUT DX,AX`: 46 R612. -/
def execOutDxAx (s : State) : Out := attempt s s.checkTrusted (s.outWord (s.reg .dx) (s.reg .ax)).advance

end Sys2Proof.Machine
end

