-- ==== Sys2Proof/Machine/Logic.lean ====
section
/-!
DEFINITION. Logic, shifts and rotates (42 R441-R456). A shift by a masked count of 0 still reads, checks and writes its
operand (42 R449).
-/

namespace Sys2Proof.Machine

/-- `OR eb,rb`: 42 R442. -/
def execOrEbRb (e : Eb) (r : Reg8) (s : State) : Out :=
  attempt s (s.checkEb e true) (s.rmwEb e (orOp s.draw (s.reg8 r))).advance.drawn

/-- `OR ew,rw`: 42 R442. -/
def execOrEwRw (e : Ew) (r : Reg16) (s : State) : Out :=
  attempt s (s.checkEw e true) (s.rmwEw e (orOp s.draw (s.reg r))).advance.drawn

/-- `OR rb,eb`: 42 R442. -/
def execOrRbEb (r : Reg8) (e : Eb) (s : State) : Out :=
  attempt s (s.checkEb e false) (s.rmwEb (.reg r) (orOp s.draw (s.getEb e))).advance.drawn

/-- `OR rw,ew`: 42 R442. -/
def execOrRwEw (r : Reg16) (e : Ew) (s : State) : Out :=
  attempt s (s.checkEw e false) (s.rmwEw (.reg r) (orOp s.draw (s.getEw e))).advance.drawn

/-- `OR AL,db`: 42 R442. -/
def execOrAlDb (b : Byte) (s : State) : Out := .next (s.rmwEb (.reg .al) (orOp s.draw b)).advance.drawn

/-- `OR AX,dw`: 42 R442. -/
def execOrAxDw (w : Word) (s : State) : Out := .next (s.rmwEw (.reg .ax) (orOp s.draw w)).advance.drawn

/-- `OR eb,db`: 42 R442. -/
def execOrEbDb (e : Eb) (b : Byte) (s : State) : Out :=
  attempt s (s.checkEb e true) (s.rmwEb e (orOp s.draw b)).advance.drawn

/-- `OR ew,dw`: 42 R442. -/
def execOrEwDw (e : Ew) (w : Word) (s : State) : Out :=
  attempt s (s.checkEw e true) (s.rmwEw e (orOp s.draw w)).advance.drawn

/-- `AND eb,rb`: 42 R441. -/
def execAndEbRb (e : Eb) (r : Reg8) (s : State) : Out :=
  attempt s (s.checkEb e true) (s.rmwEb e (andOp s.draw (s.reg8 r))).advance.drawn

/-- `AND ew,rw`: 42 R441. -/
def execAndEwRw (e : Ew) (r : Reg16) (s : State) : Out :=
  attempt s (s.checkEw e true) (s.rmwEw e (andOp s.draw (s.reg r))).advance.drawn

/-- `AND rb,eb`: 42 R441. -/
def execAndRbEb (r : Reg8) (e : Eb) (s : State) : Out :=
  attempt s (s.checkEb e false) (s.rmwEb (.reg r) (andOp s.draw (s.getEb e))).advance.drawn

/-- `AND rw,ew`: 42 R441. -/
def execAndRwEw (r : Reg16) (e : Ew) (s : State) : Out :=
  attempt s (s.checkEw e false) (s.rmwEw (.reg r) (andOp s.draw (s.getEw e))).advance.drawn

/-- `AND AL,db`: 42 R441. -/
def execAndAlDb (b : Byte) (s : State) : Out := .next (s.rmwEb (.reg .al) (andOp s.draw b)).advance.drawn

/-- `AND AX,dw`: 42 R441. -/
def execAndAxDw (w : Word) (s : State) : Out := .next (s.rmwEw (.reg .ax) (andOp s.draw w)).advance.drawn

/-- `AND eb,db`: 42 R441. -/
def execAndEbDb (e : Eb) (b : Byte) (s : State) : Out :=
  attempt s (s.checkEb e true) (s.rmwEb e (andOp s.draw b)).advance.drawn

/-- `AND ew,dw`: 42 R441. -/
def execAndEwDw (e : Ew) (w : Word) (s : State) : Out :=
  attempt s (s.checkEw e true) (s.rmwEw e (andOp s.draw w)).advance.drawn

/-- `XOR eb,rb`: 42 R443. -/
def execXorEbRb (e : Eb) (r : Reg8) (s : State) : Out :=
  attempt s (s.checkEb e true) (s.rmwEb e (xorOp s.draw (s.reg8 r))).advance.drawn

/-- `XOR ew,rw`: 42 R443. -/
def execXorEwRw (e : Ew) (r : Reg16) (s : State) : Out :=
  attempt s (s.checkEw e true) (s.rmwEw e (xorOp s.draw (s.reg r))).advance.drawn

/-- `XOR rb,eb`: 42 R443. -/
def execXorRbEb (r : Reg8) (e : Eb) (s : State) : Out :=
  attempt s (s.checkEb e false) (s.rmwEb (.reg r) (xorOp s.draw (s.getEb e))).advance.drawn

/-- `XOR rw,ew`: 42 R443. -/
def execXorRwEw (r : Reg16) (e : Ew) (s : State) : Out :=
  attempt s (s.checkEw e false) (s.rmwEw (.reg r) (xorOp s.draw (s.getEw e))).advance.drawn

/-- `XOR AL,db`: 42 R443. -/
def execXorAlDb (b : Byte) (s : State) : Out := .next (s.rmwEb (.reg .al) (xorOp s.draw b)).advance.drawn

/-- `XOR AX,dw`: 42 R443. -/
def execXorAxDw (w : Word) (s : State) : Out := .next (s.rmwEw (.reg .ax) (xorOp s.draw w)).advance.drawn

/-- `XOR eb,db`: 42 R443. -/
def execXorEbDb (e : Eb) (b : Byte) (s : State) : Out :=
  attempt s (s.checkEb e true) (s.rmwEb e (xorOp s.draw b)).advance.drawn

/-- `XOR ew,dw`: 42 R443. -/
def execXorEwDw (e : Ew) (w : Word) (s : State) : Out :=
  attempt s (s.checkEw e true) (s.rmwEw e (xorOp s.draw w)).advance.drawn

/-- `TEST eb,rb`: 42 R444. -/
def execTestEbRb (e : Eb) (r : Reg8) (s : State) : Out :=
  attempt s (s.checkEb e false) (s.setFlags (andOp s.draw (s.reg8 r) (s.getEb e) s.flags).2).advance.drawn

/-- `TEST ew,rw`: 42 R444. -/
def execTestEwRw (e : Ew) (r : Reg16) (s : State) : Out :=
  attempt s (s.checkEw e false) (s.setFlags (andOp s.draw (s.reg r) (s.getEw e) s.flags).2).advance.drawn

/-- `TEST AL,db`: 42 R444. -/
def execTestAlDb (b : Byte) (s : State) : Out :=
  .next (s.setFlags (andOp s.draw b (s.reg8 .al) s.flags).2).advance.drawn

/-- `TEST AX,dw`: 42 R444. -/
def execTestAxDw (w : Word) (s : State) : Out :=
  .next (s.setFlags (andOp s.draw w (s.reg .ax) s.flags).2).advance.drawn

/-- `ROL eb,db`: 42 R450. -/
def execRolEbDb (e : Eb) (b : Byte) (s : State) : Out :=
  attempt s (s.checkEb e true) (s.rmwEb e (rolF (maskCount b) s.draw)).advance.drawn

/-- `ROR eb,db`: 42 R451. -/
def execRorEbDb (e : Eb) (b : Byte) (s : State) : Out :=
  attempt s (s.checkEb e true) (s.rmwEb e (rorF (maskCount b) s.draw)).advance.drawn

/-- `RCL eb,db`: 42 R452. -/
def execRclEbDb (e : Eb) (b : Byte) (s : State) : Out :=
  attemptIn (s.rotateFaultEb (maskCount b) e) (s.checkEb e true)
    (s.rmwEb e (rclF (maskCount b) s.draw)).advance.drawn

/-- `RCR eb,db`: 42 R453. -/
def execRcrEbDb (e : Eb) (b : Byte) (s : State) : Out :=
  attemptIn (s.rotateFaultEb (maskCount b) e) (s.checkEb e true)
    (s.rmwEb e (rcrF (maskCount b) s.draw)).advance.drawn

/-- `SAL eb,db`: 42 R454. -/
def execSalEbDb (e : Eb) (b : Byte) (s : State) : Out :=
  attempt s (s.checkEb e true) (s.rmwEb e (salF (maskCount b) s.draw)).advance.drawn

/-- `SHR eb,db`: 42 R455. -/
def execShrEbDb (e : Eb) (b : Byte) (s : State) : Out :=
  attempt s (s.checkEb e true) (s.rmwEb e (shrF (maskCount b) s.draw)).advance.drawn

/-- `SAR eb,db`: 42 R456. -/
def execSarEbDb (e : Eb) (b : Byte) (s : State) : Out :=
  attempt s (s.checkEb e true) (s.rmwEb e (sarF (maskCount b) s.draw)).advance.drawn

/-- `ROL ew,db`: 42 R450. -/
def execRolEwDb (e : Ew) (b : Byte) (s : State) : Out :=
  attempt s (s.checkEw e true) (s.rmwEw e (rolF (maskCount b) s.draw)).advance.drawn

/-- `ROR ew,db`: 42 R451. -/
def execRorEwDb (e : Ew) (b : Byte) (s : State) : Out :=
  attempt s (s.checkEw e true) (s.rmwEw e (rorF (maskCount b) s.draw)).advance.drawn

/-- `RCL ew,db`: 42 R452. -/
def execRclEwDb (e : Ew) (b : Byte) (s : State) : Out :=
  attemptIn (s.rotateFaultEw (maskCount b) e) (s.checkEw e true)
    (s.rmwEw e (rclF (maskCount b) s.draw)).advance.drawn

/-- `RCR ew,db`: 42 R453. -/
def execRcrEwDb (e : Ew) (b : Byte) (s : State) : Out :=
  attemptIn (s.rotateFaultEw (maskCount b) e) (s.checkEw e true)
    (s.rmwEw e (rcrF (maskCount b) s.draw)).advance.drawn

/-- `SAL ew,db`: 42 R454. -/
def execSalEwDb (e : Ew) (b : Byte) (s : State) : Out :=
  attempt s (s.checkEw e true) (s.rmwEw e (salF (maskCount b) s.draw)).advance.drawn

/-- `SHR ew,db`: 42 R455. -/
def execShrEwDb (e : Ew) (b : Byte) (s : State) : Out :=
  attempt s (s.checkEw e true) (s.rmwEw e (shrF (maskCount b) s.draw)).advance.drawn

/-- `SAR ew,db`: 42 R456. -/
def execSarEwDb (e : Ew) (b : Byte) (s : State) : Out :=
  attempt s (s.checkEw e true) (s.rmwEw e (sarF (maskCount b) s.draw)).advance.drawn

/-- `ROL eb,1`: 42 R450. -/
def execRolEb1 (e : Eb) (s : State) : Out := attempt s (s.checkEb e true) (s.rmwEb e (rolF 1 s.draw)).advance

/-- `ROR eb,1`: 42 R451. -/
def execRorEb1 (e : Eb) (s : State) : Out := attempt s (s.checkEb e true) (s.rmwEb e (rorF 1 s.draw)).advance

/-- `RCL eb,1`: 42 R452. -/
def execRclEb1 (e : Eb) (s : State) : Out :=
  attemptIn (s.carryFaultEb e) (s.checkEb e true) (s.rmwEb e (rclF 1 s.draw)).advance

/-- `RCR eb,1`: 42 R453. -/
def execRcrEb1 (e : Eb) (s : State) : Out :=
  attemptIn (s.carryFaultEb e) (s.checkEb e true) (s.rmwEb e (rcrF 1 s.draw)).advance

/-- `SAL eb,1`: 42 R454. -/
def execSalEb1 (e : Eb) (s : State) : Out := attempt s (s.checkEb e true) (s.rmwEb e (salF 1 s.draw)).advance.drawn

/-- `SHR eb,1`: 42 R455. -/
def execShrEb1 (e : Eb) (s : State) : Out := attempt s (s.checkEb e true) (s.rmwEb e (shrF 1 s.draw)).advance.drawn

/-- `SAR eb,1`: 42 R456. -/
def execSarEb1 (e : Eb) (s : State) : Out := attempt s (s.checkEb e true) (s.rmwEb e (sarF 1 s.draw)).advance.drawn

/-- `ROL ew,1`: 42 R450. -/
def execRolEw1 (e : Ew) (s : State) : Out := attempt s (s.checkEw e true) (s.rmwEw e (rolF 1 s.draw)).advance

/-- `ROR ew,1`: 42 R451. -/
def execRorEw1 (e : Ew) (s : State) : Out := attempt s (s.checkEw e true) (s.rmwEw e (rorF 1 s.draw)).advance

/-- `RCL ew,1`: 42 R452. -/
def execRclEw1 (e : Ew) (s : State) : Out :=
  attemptIn (s.carryFaultEw e) (s.checkEw e true) (s.rmwEw e (rclF 1 s.draw)).advance

/-- `RCR ew,1`: 42 R453. -/
def execRcrEw1 (e : Ew) (s : State) : Out :=
  attemptIn (s.carryFaultEw e) (s.checkEw e true) (s.rmwEw e (rcrF 1 s.draw)).advance

/-- `SAL ew,1`: 42 R454. -/
def execSalEw1 (e : Ew) (s : State) : Out := attempt s (s.checkEw e true) (s.rmwEw e (salF 1 s.draw)).advance.drawn

/-- `SHR ew,1`: 42 R455. -/
def execShrEw1 (e : Ew) (s : State) : Out := attempt s (s.checkEw e true) (s.rmwEw e (shrF 1 s.draw)).advance.drawn

/-- `SAR ew,1`: 42 R456. -/
def execSarEw1 (e : Ew) (s : State) : Out := attempt s (s.checkEw e true) (s.rmwEw e (sarF 1 s.draw)).advance.drawn

/-- `ROL eb,CL`: 42 R450. -/
def execRolEbCl (e : Eb) (s : State) : Out :=
  attempt s (s.checkEb e true) (s.rmwEb e (rolF (maskCount (s.reg8 .cl)) s.draw)).advance.drawn

/-- `ROR eb,CL`: 42 R451. -/
def execRorEbCl (e : Eb) (s : State) : Out :=
  attempt s (s.checkEb e true) (s.rmwEb e (rorF (maskCount (s.reg8 .cl)) s.draw)).advance.drawn

/-- `RCL eb,CL`: 42 R452. -/
def execRclEbCl (e : Eb) (s : State) : Out :=
  attemptIn (s.rotateFaultEb (maskCount (s.reg8 .cl)) e) (s.checkEb e true)
    (s.rmwEb e (rclF (maskCount (s.reg8 .cl)) s.draw)).advance.drawn

/-- `RCR eb,CL`: 42 R453. -/
def execRcrEbCl (e : Eb) (s : State) : Out :=
  attemptIn (s.rotateFaultEb (maskCount (s.reg8 .cl)) e) (s.checkEb e true)
    (s.rmwEb e (rcrF (maskCount (s.reg8 .cl)) s.draw)).advance.drawn

/-- `SAL eb,CL`: 42 R454. -/
def execSalEbCl (e : Eb) (s : State) : Out :=
  attempt s (s.checkEb e true) (s.rmwEb e (salF (maskCount (s.reg8 .cl)) s.draw)).advance.drawn

/-- `SHR eb,CL`: 42 R455. -/
def execShrEbCl (e : Eb) (s : State) : Out :=
  attempt s (s.checkEb e true) (s.rmwEb e (shrF (maskCount (s.reg8 .cl)) s.draw)).advance.drawn

/-- `SAR eb,CL`: 42 R456. -/
def execSarEbCl (e : Eb) (s : State) : Out :=
  attempt s (s.checkEb e true) (s.rmwEb e (sarF (maskCount (s.reg8 .cl)) s.draw)).advance.drawn

/-- `ROL ew,CL`: 42 R450. -/
def execRolEwCl (e : Ew) (s : State) : Out :=
  attempt s (s.checkEw e true) (s.rmwEw e (rolF (maskCount (s.reg8 .cl)) s.draw)).advance.drawn

/-- `ROR ew,CL`: 42 R451. -/
def execRorEwCl (e : Ew) (s : State) : Out :=
  attempt s (s.checkEw e true) (s.rmwEw e (rorF (maskCount (s.reg8 .cl)) s.draw)).advance.drawn

/-- `RCL ew,CL`: 42 R452. -/
def execRclEwCl (e : Ew) (s : State) : Out :=
  attemptIn (s.rotateFaultEw (maskCount (s.reg8 .cl)) e) (s.checkEw e true)
    (s.rmwEw e (rclF (maskCount (s.reg8 .cl)) s.draw)).advance.drawn

/-- `RCR ew,CL`: 42 R453. -/
def execRcrEwCl (e : Ew) (s : State) : Out :=
  attemptIn (s.rotateFaultEw (maskCount (s.reg8 .cl)) e) (s.checkEw e true)
    (s.rmwEw e (rcrF (maskCount (s.reg8 .cl)) s.draw)).advance.drawn

/-- `SAL ew,CL`: 42 R454. -/
def execSalEwCl (e : Ew) (s : State) : Out :=
  attempt s (s.checkEw e true) (s.rmwEw e (salF (maskCount (s.reg8 .cl)) s.draw)).advance.drawn

/-- `SHR ew,CL`: 42 R455. -/
def execShrEwCl (e : Ew) (s : State) : Out :=
  attempt s (s.checkEw e true) (s.rmwEw e (shrF (maskCount (s.reg8 .cl)) s.draw)).advance.drawn

/-- `SAR ew,CL`: 42 R456. -/
def execSarEwCl (e : Ew) (s : State) : Out :=
  attempt s (s.checkEw e true) (s.rmwEw e (sarF (maskCount (s.reg8 .cl)) s.draw)).advance.drawn

/-- `TEST eb,db`: 42 R444. -/
def execTestEbDb (e : Eb) (b : Byte) (s : State) : Out :=
  attempt s (s.checkEb e false) (s.setFlags (andOp s.draw b (s.getEb e) s.flags).2).advance.drawn

/-- `NOT eb`: 42 R445. -/
def execNotEb (e : Eb) (s : State) : Out := attempt s (s.checkEb e true) (s.rmwEb e (fun a f => (~~~a, f))).advance

/-- `TEST ew,dw`: 42 R444. -/
def execTestEwDw (e : Ew) (w : Word) (s : State) : Out :=
  attempt s (s.checkEw e false) (s.setFlags (andOp s.draw w (s.getEw e) s.flags).2).advance.drawn

/-- `NOT ew`: 42 R445. -/
def execNotEw (e : Ew) (s : State) : Out := attempt s (s.checkEw e true) (s.rmwEw e (fun a f => (~~~a, f))).advance

end Sys2Proof.Machine
end

