-- ==== Sys2Proof/Machine/Prefix.lean ====
section
/-!
DEFINITION. The prefix bytes as tokens of the decoding loop (30 R262, R290; log 10): each latches its variable, the last
one of a group wins, and IP stays at the first byte of the instruction. The privilege check of LOCK is made by the
loop when the instruction after it is known to be valid (30 R290 steps 7, 8).
-/

namespace Sys2Proof.Machine

/-- A segment override (30 R275). -/
def State.latchSeg (s : State) (r : SReg) : State := { s with cur := { s.cur with seg := some r } }

/-- A repeat prefix (43 R493). -/
def State.latchRep (s : State) (r : Rep) : State := { s with cur := { s.cur with rep := some r } }

/-- LOCK (45 R592). -/
def State.latchLock (s : State) : State := { s with cur := { s.cur with lock := true } }

/-- `SEG ES:`: 30 R275. -/
def execSegEs (s : State) : Out := .next (s.latchSeg .es)

/-- `SEG CS:`: 30 R275. -/
def execSegCs (s : State) : Out := .next (s.latchSeg .cs)

/-- `SEG SS:`: 30 R275. -/
def execSegSs (s : State) : Out := .next (s.latchSeg .ss)

/-- `SEG DS:`: 30 R275. -/
def execSegDs (s : State) : Out := .next (s.latchSeg .ds)

/-- `LOCK`: 45 R592. -/
def execLock (s : State) : Out := .next s.latchLock

/-- `REPNE`: 43 R493. -/
def execRepne (s : State) : Out := .next (s.latchRep .repne)

/-- `REP`: 43 R493. -/
def execRep (s : State) : Out := .next (s.latchRep .repe)

end Sys2Proof.Machine
end

