-- ==== Sys2Proof/Machine/StringOps.lean ====
section
/-!
DEFINITION. The string primitives, INS and OUTS among them, and the repeat loop (43 R480-R496; 46 R614, R615). One
run of `strRun` is one unrepeated primitive or one iteration of a repeated one (43 R495).
-/

namespace Sys2Proof.Machine

/-- The string primitives. -/
inductive StrOp where
  | movs | cmps | scas | lods | stos | ins | outs
  deriving DecidableEq, Repr

/-- The primitive uses the source `SRC:SI` (43 R480). -/
def StrOp.hasSource : StrOp → Bool
  | .movs | .cmps | .lods | .outs => true
  | .scas | .stos | .ins => false

/-- The primitive uses the destination `ES:DI`. -/
def StrOp.hasDest : StrOp → Bool
  | .movs | .cmps | .scas | .stos | .ins => true
  | .lods | .outs => false

/-- The primitive writes its destination. -/
def StrOp.writesDest : StrOp → Bool
  | .movs | .stos | .ins => true
  | .cmps | .scas | .lods | .outs => false

/-- The primitive compares, so that a repeat prefix tests ZF (43 R493). -/
def StrOp.compares : StrOp → Bool
  | .cmps | .scas => true
  | _ => false

/-- The primitive uses the I/O space. -/
def StrOp.isIo : StrOp → Bool
  | .ins | .outs => true
  | _ => false

/-- The bytes of an element. -/
def elemBytes (wide : Bool) : Nat := if wide then 2 else 1

/-- `delta` (43 R481). -/
def State.strDelta (s : State) (wide : Bool) : Word :=
  if s.flags.df then -BitVec.ofNat 16 (elemBytes wide) else BitVec.ofNat 16 (elemBytes wide)

/-- An element in memory; a byte is zero-extended. -/
def State.strLoad (s : State) (r : SReg) (off : Word) (wide : Bool) : Word :=
  if wide then s.peek16 r off else zext16 (s.peek8 r off)

/-- Store an element. -/
def State.strStore (s : State) (r : SReg) (off : Word) (wide : Bool) (v : Word) : State :=
  if wide then s.poke16 r off v else s.poke8 r off v.lo

/-- AX or AL as an element. -/
def State.strAcc (s : State) (wide : Bool) : Word := if wide then s.reg .ax else zext16 (s.reg8 .al)

/-- Write AX or AL. -/
def State.setAcc (s : State) (wide : Bool) (v : Word) : State :=
  if wide then s.setReg .ax v else s.setReg8 .al v.lo

/-- FLAGS of a comparison of elements (43 R483, R484). -/
def strFlags (wide : Bool) (a b : Word) (f : Flags) : Flags :=
  if wide then (subF a b false f).2 else (subF a.lo b.lo false f).2

/-- The element a port returns. -/
def State.strIn (s : State) (wide : Bool) : Word :=
  if wide then s.portWord (s.reg .dx) else zext16 (s.portByte (s.reg .dx))

/-- The machine after a port read of an element. -/
def State.afterStrIn (s : State) (wide : Bool) : State :=
  if wide then s.afterPortWord (s.reg .dx) else s.afterPortByte (s.reg .dx)

/-- Write an element to a port. -/
def State.strOut (s : State) (wide : Bool) (v : Word) : State :=
  if wide then s.outWord (s.reg .dx) v else s.outByte (s.reg .dx) v.lo

/-- SRC: the override segment, else DS (43 R480). -/
def State.strSrc (s : State) : SReg := s.segOr .ds

/-- The data part of a primitive, after its checks (43 R482-R486; 46 R614, R615). -/
def State.strData (s : State) (op : StrOp) (wide : Bool) : State :=
  match op with
  | .movs => s.strStore .es (s.reg .di) wide (s.strLoad s.strSrc (s.reg .si) wide)
  | .cmps => s.setFlags
      (strFlags wide (s.strLoad s.strSrc (s.reg .si) wide) (s.strLoad .es (s.reg .di) wide) s.flags)
  | .scas => s.setFlags (strFlags wide (s.strAcc wide) (s.strLoad .es (s.reg .di) wide) s.flags)
  | .lods => s.setAcc wide (s.strLoad s.strSrc (s.reg .si) wide)
  | .stos => s.strStore .es (s.reg .di) wide (s.strAcc wide)
  | .ins => (s.afterStrIn wide).strStore .es (s.reg .di) wide (s.strIn wide)
  | .outs => s.strOut wide (s.strLoad s.strSrc (s.reg .si) wide)

/-- The pointer advance (43 R481). -/
def State.strAdvance (s : State) (op : StrOp) (wide : Bool) : State :=
  let t := if op.hasSource then s.setReg .si (s.reg .si + s.strDelta wide) else s
  if op.hasDest then t.setReg .di (t.reg .di + t.strDelta wide) else t

/-- One primitive. -/
def State.strStep (s : State) (op : StrOp) (wide : Bool) : State := (s.strData op wide).strAdvance op wide

/-- The check of the source element. -/
def State.checkStrSrc (s : State) (op : StrOp) (wide : Bool) : Except Exn Unit :=
  if op.hasSource then s.check s.strSrc (s.reg .si) (elemBytes wide) false else .ok ()

/-- The check of the destination element. -/
def State.checkStrDest (s : State) (op : StrOp) (wide : Bool) : Except Exn Unit :=
  if op.hasDest then s.check .es (s.reg .di) (elemBytes wide) op.writesDest else .ok ()

/-- A repetition whose count is used up: nothing is done (43 R494 step 1). -/
def State.repDone (s : State) (rep : Option Rep) : Bool := rep.isSome && (s.reg .cx == 0)

/-- All checks of one run: IOPL (46 R610), then the source, then the destination (92 D25). -/
def State.checkStr (s : State) (op : StrOp) (wide : Bool) (rep : Option Rep) : Except Exn Unit := do
  if op.isIo then s.checkTrusted else .ok ()
  if s.repDone rep then .ok ()
  else do
    s.checkStrSrc op wide
    s.checkStrDest op wide

/-- The ZF test of a repeated comparison ends the repetition (43 R494 step 5). -/
def repStops (op : StrOp) (rep : Rep) (zf : Bool) : Bool :=
  op.compares && (match rep with | .repe => !zf | .repne => zf)

/-- One iteration after its checks: the primitive, the count, and IP at the next instruction if the loop ends
(43 R494). -/
def State.strIter (s : State) (op : StrOp) (wide : Bool) (rep : Rep) : State :=
  let t := s.strStep op wide
  let u := t.setReg .cx (t.reg .cx - 1)
  if u.reg .cx == 0 || repStops op rep u.flags.zf then u.advance else u

/-- The state after one run whose checks pass. -/
def State.strNext (s : State) (op : StrOp) (wide : Bool) (rep : Option Rep) : State :=
  if s.repDone rep then s.advance
  else
    match rep with
    | none => (s.strStep op wide).advance
    | some r => s.strIter op wide r

/-! ### Limit faults (43 R496, 93 U4; log 13) -/

/-- The first check that fails is the limit check. -/
def State.limitFault (s : State) (r : SReg) (off : Word) (n : Nat) (write : Bool) : Bool :=
  s.segUsable r && s.segRights r write && !s.inLimit (s.seg r) off n

/-- The exception of `checkStr` is a limit violation of an element. -/
def State.strLimitFault (s : State) (op : StrOp) (wide : Bool) : Bool :=
  !(op.isIo && s.untrusted) &&
    match s.checkStrSrc op wide with
    | .error _ => s.limitFault s.strSrc (s.reg .si) (elemBytes wide) false
    | .ok _ => s.limitFault .es (s.reg .di) (elemBytes wide) op.writesDest

/-- FLAGS with the six status flags free. -/
def Flags.scatter (f : Flags) (d : Nat) : Flags :=
  { f with cf := Config.freeFlag d .cf, pf := Config.freeFlag d .pf, af := Config.freeFlag d .af,
           zf := Config.freeFlag d .zf, sf := Config.freeFlag d .sf, of := Config.freeFlag d .of }

/-- What a limit fault may leave besides SI, DI and CX: the accumulator of LODS, the flags of a comparison, the port
of INS read or not. -/
def State.strScatterOther (s : State) (op : StrOp) (wide : Bool) : State :=
  match op with
  | .lods => s.setAcc wide (Config.freeWord s.draw .ax)
  | .cmps | .scas => s.setFlags (s.flags.scatter s.draw)
  | .ins => if Config.freeChoice s.draw then s.afterStrIn wide else s
  | .movs | .stos | .outs => s

/-- The state a limit fault leaves: SI, DI and CX at any value. -/
def State.strScatter (s : State) (op : StrOp) (wide : Bool) : State :=
  ((((s.strScatterOther op wide).setReg .si (Config.freeWord s.draw .si)).setReg .di
    (Config.freeWord s.draw .di)).setReg .cx (Config.freeWord s.draw .cx)).drawn

/-- The state in which a failed check of one run raises its exception. -/
def State.strFaultState (s : State) (op : StrOp) (wide : Bool) : State :=
  if s.strLimitFault op wide then s.strScatter op wide else s

/-- A string primitive, repeated or not. -/
def strRun (s : State) (op : StrOp) (wide : Bool) (rep : Option Rep) : Out :=
  attemptIn (s.strFaultState op wide) (s.checkStr op wide rep) (s.strNext op wide rep)

end Sys2Proof.Machine
end

