-- ==== Sys2Proof/Machine/Strings.lean ====
section
/-!
DEFINITION. The string instructions (43 R482-R486; 46 R614, R615), plain and with the repeat prefixes of the table. A
plain one repeats when a repeat prefix stands further ahead of it (30 R262).
-/

namespace Sys2Proof.Machine

/-- `INSB`: 46 R614. -/
def execInsb (s : State) : Out := strRun s .ins false s.cur.rep

/-- `INSW`: 46 R614. -/
def execInsw (s : State) : Out := strRun s .ins true s.cur.rep

/-- `OUTSB`: 46 R615. -/
def execOutsb (s : State) : Out := strRun s .outs false s.cur.rep

/-- `OUTSW`: 46 R615. -/
def execOutsw (s : State) : Out := strRun s .outs true s.cur.rep

/-- `MOVSB`: 43 R482. -/
def execMovsb (s : State) : Out := strRun s .movs false s.cur.rep

/-- `MOVSW`: 43 R482. -/
def execMovsw (s : State) : Out := strRun s .movs true s.cur.rep

/-- `CMPSB`: 43 R483. -/
def execCmpsb (s : State) : Out := strRun s .cmps false s.cur.rep

/-- `CMPSW`: 43 R483. -/
def execCmpsw (s : State) : Out := strRun s .cmps true s.cur.rep

/-- `STOSB`: 43 R486. -/
def execStosb (s : State) : Out := strRun s .stos false s.cur.rep

/-- `STOSW`: 43 R486. -/
def execStosw (s : State) : Out := strRun s .stos true s.cur.rep

/-- `LODSB`: 43 R485. -/
def execLodsb (s : State) : Out := strRun s .lods false s.cur.rep

/-- `LODSW`: 43 R485. -/
def execLodsw (s : State) : Out := strRun s .lods true s.cur.rep

/-- `SCASB`: 43 R484. -/
def execScasb (s : State) : Out := strRun s .scas false s.cur.rep

/-- `SCASW`: 43 R484. -/
def execScasw (s : State) : Out := strRun s .scas true s.cur.rep

/-- `REP_INSB`: 43 R494. -/
def execRepInsb (s : State) : Out := strRun s .ins false (some .repe)

/-- `REP_INSW`: 43 R494. -/
def execRepInsw (s : State) : Out := strRun s .ins true (some .repe)

/-- `REP_MOVSB`: 43 R494. -/
def execRepMovsb (s : State) : Out := strRun s .movs false (some .repe)

/-- `REP_MOVSW`: 43 R494. -/
def execRepMovsw (s : State) : Out := strRun s .movs true (some .repe)

/-- `REP_OUTSB`: 43 R494. -/
def execRepOutsb (s : State) : Out := strRun s .outs false (some .repe)

/-- `REP_OUTSW`: 43 R494. -/
def execRepOutsw (s : State) : Out := strRun s .outs true (some .repe)

/-- `REP_STOSB`: 43 R494. -/
def execRepStosb (s : State) : Out := strRun s .stos false (some .repe)

/-- `REP_STOSW`: 43 R494. -/
def execRepStosw (s : State) : Out := strRun s .stos true (some .repe)

/-- `REP_LODSB`: 43 R494. -/
def execRepLodsb (s : State) : Out := strRun s .lods false (some .repe)

/-- `REP_LODSW`: 43 R494. -/
def execRepLodsw (s : State) : Out := strRun s .lods true (some .repe)

/-- `REPE_CMPSB`: 43 R494. -/
def execRepeCmpsb (s : State) : Out := strRun s .cmps false (some .repe)

/-- `REPE_CMPSW`: 43 R494. -/
def execRepeCmpsw (s : State) : Out := strRun s .cmps true (some .repe)

/-- `REPE_SCASB`: 43 R494. -/
def execRepeScasb (s : State) : Out := strRun s .scas false (some .repe)

/-- `REPE_SCASW`: 43 R494. -/
def execRepeScasw (s : State) : Out := strRun s .scas true (some .repe)

/-- `REPNE_CMPSB`: 43 R494. -/
def execRepneCmpsb (s : State) : Out := strRun s .cmps false (some .repne)

/-- `REPNE_CMPSW`: 43 R494. -/
def execRepneCmpsw (s : State) : Out := strRun s .cmps true (some .repne)

/-- `REPNE_SCASB`: 43 R494. -/
def execRepneScasb (s : State) : Out := strRun s .scas false (some .repne)

/-- `REPNE_SCASW`: 43 R494. -/
def execRepneScasw (s : State) : Out := strRun s .scas true (some .repne)

end Sys2Proof.Machine
end

