-- ==== Sys2Proof/Machine/System.lean ====
section
/-!
DEFINITION. System registers and selector tests (48 R722-R740). What cannot be decoded in this mode or with this operand
is #UD before the privilege test (92 D17).
-/

namespace Sys2Proof.Machine

/-- SGDT and SIDT: limit, base, and a byte at any value (48 R722, R723; 93 U6; log 15). -/
def State.storeTable (s : State) (e : Ew) (t : TableReg) : State :=
  match e with
  | .reg _ => s
  | .mem m =>
    let r := s.memSeg m
    let o := s.ea m
    (((s.poke16 r o t.limit).poke16 r (o + 2) (t.base.extractLsb' 0 16)).poke8 r (o + 4)
      (t.base.extractLsb' 16 8)).poke8 r (o + 5) (Config.freeByte s.draw)

/-- The table register that LGDT and LIDT load from memory (48 R724). -/
def State.tableOperand (s : State) (e : Ew) : TableReg :=
  { limit := s.memWord e 0, base := (s.memWord e 4).lo ++ s.memWord e 2 }

/-- `Defined(sel)` (48, section 4). -/
def State.selDefined (s : State) (sel : Word) : Bool := !selNull sel && s.inTable sel

/-- `Visible(sel, d)`, waived for a conforming code segment (48, section 4; R734, R736). -/
def State.selVisible (s : State) (sel : Word) : Bool :=
  let d := s.desc sel
  arConforming d.access || (decide (s.cpl.toNat ≤ d.dpl.toNat) && decide ((selRpl sel).toNat ≤ d.dpl.toNat))

/-- The test of VERR (48 R734). -/
def State.verrOk (s : State) (sel : Word) : Bool :=
  s.selDefined sel && arReadable (s.desc sel).access && s.selVisible sel

/-- The test of VERW (48 R735). -/
def State.verwOk (s : State) (sel : Word) : Bool :=
  s.selDefined sel && arWritableData (s.desc sel).access && s.selVisible sel

/-- The type is neither empty nor illegal: not 00H and not 08H to 0FH in the low five bits (21 R172). -/
def arLegal (ar : Byte) : Bool :=
  ar.getLsbD 4 || (arType ar != 0x00 && !ar.getLsbD 3)

/-- The test of LAR (48 R736). An empty or illegal type fails it, by the ruling 93 U16 (log 38). -/
def State.larOk (s : State) (sel : Word) : Bool :=
  s.selDefined sel && arLegal (s.desc sel).access && s.selVisible sel

/-- A descriptor with a limit: a segment, a TSS or an LDT (48 R737). -/
def arHasLimit (ar : Byte) : Bool :=
  ar.getLsbD 4 || arType ar == 0x01 || arType ar == 0x02 || arType ar == 0x03

/-- The test of LSL (48 R737). -/
def State.lslOk (s : State) (sel : Word) : Bool :=
  s.selDefined sel && arHasLimit (s.desc sel).access && s.selVisible sel

/-- ZF, nothing else. -/
def State.setZf (s : State) (z : Bool) : State := s.setFlags { s.flags with zf := z }

/-- The end of a selector test: ZF, and the Accessed bit of a segment descriptor that passed (92 D13). -/
def State.selTest (s : State) (ok : Bool) (sel : Word) : State :=
  (if ok && (s.desc sel).access.getLsbD 4 then s.setAccessed sel (s.desc sel) else s).setZf ok

/-- A selector test that also loads a register when it passes (48 R736, R737). -/
def State.selLoad (s : State) (ok : Bool) (sel : Word) (r : Reg16) (v : Word) : State :=
  let t := s.selTest ok sel
  if ok then t.setReg r v else t

/-- ARPL with the second operand `q` (48 R740). -/
def State.arpl (s : State) (e : Ew) (q : Word) : State :=
  let d := s.getEw e
  if (selRpl d).toNat < (selRpl q).toNat then (s.putEw e (selWithRpl d (selRpl q))).setZf true else s.setZf false

/-- `ARPL ew,rw`: 48 R740. -/
def execArplEwRw (e : Ew) (r : Reg16) (s : State) : Out :=
  attempt s (do s.checkPm; s.checkEw e true) (s.arpl e (s.reg r)).advance

/-- `SLDT ew`: 48 R730. -/
def execSldtEw (e : Ew) (s : State) : Out := attempt s (do s.checkPm; s.checkEw e true) (s.putEw e s.ldtr.sel).advance

/-- `STR ew`: 48 R731. -/
def execStrEw (e : Ew) (s : State) : Out := attempt s (do s.checkPm; s.checkEw e true) (s.putEw e s.tr.sel).advance

/-- `LLDT ew`: 48 R732. -/
def execLldtEw (e : Ew) (s : State) : Out :=
  attempt s (do s.checkPm; s.checkPrivileged; s.checkEw e false; s.checkLdt (s.getEw e))
    (s.applyLdt (s.getEw e)).advance

/-- `LTR ew`: 48 R733. -/
def execLtrEw (e : Ew) (s : State) : Out :=
  attempt s (do s.checkPm; s.checkPrivileged; s.checkEw e false; s.checkTr (s.getEw e))
    (s.applyTr (s.getEw e)).advance

/-- `VERR ew`: 48 R734. -/
def execVerrEw (e : Ew) (s : State) : Out :=
  attempt s (do s.checkPm; s.checkEw e false) (s.selTest (s.verrOk (s.getEw e)) (s.getEw e)).advance

/-- `VERW ew`: 48 R735. -/
def execVerwEw (e : Ew) (s : State) : Out :=
  attempt s (do s.checkPm; s.checkEw e false) (s.selTest (s.verwOk (s.getEw e)) (s.getEw e)).advance

/-- `SGDT m`: 48 R722. -/
def execSgdtM (e : Ew) (s : State) : Out := attempt s (s.checkM e 6 true) (s.storeTable e s.gdtr).advance.drawn

/-- `SIDT m`: 48 R723. -/
def execSidtM (e : Ew) (s : State) : Out := attempt s (s.checkM e 6 true) (s.storeTable e s.idtr).advance.drawn

/-- `LGDT m`: 48 R724. -/
def execLgdtM (e : Ew) (s : State) : Out :=
  attempt s (do checkIsMem e; s.checkPrivileged; s.checkM e 6 false) { s with gdtr := s.tableOperand e }.advance

/-- `LIDT m`: 48 R725. -/
def execLidtM (e : Ew) (s : State) : Out :=
  attempt s (do checkIsMem e; s.checkPrivileged; s.checkM e 6 false) { s with idtr := s.tableOperand e }.advance

/-- `SMSW ew`: 48 R726. -/
def execSmswEw (e : Ew) (s : State) : Out := attempt s (s.checkEw e true) (s.putEw e s.msw.toWord).advance

/-- `LMSW ew`: 48 R727. -/
def execLmswEw (e : Ew) (s : State) : Out :=
  attempt s (do s.checkPrivileged; s.checkEw e false) { s with msw := s.msw.load (s.getEw e) }.advance

/-- `LAR rw,ew`: 48 R736. -/
def execLarRwEw (r : Reg16) (e : Ew) (s : State) : Out :=
  attempt s (do s.checkPm; s.checkEw e false)
    (s.selLoad (s.larOk (s.getEw e)) (s.getEw e) r (wordOf (s.desc (s.getEw e)).access 0)).advance

/-- `LSL rw,ew`: 48 R737. -/
def execLslRwEw (r : Reg16) (e : Ew) (s : State) : Out :=
  attempt s (do s.checkPm; s.checkEw e false)
    (s.selLoad (s.lslOk (s.getEw e)) (s.getEw e) r (s.desc (s.getEw e)).limit).advance

/-- `CLTS`: 48 R728. -/
def execClts (s : State) : Out := attempt s s.checkPrivileged { s with msw := { s.msw with ts := false } }.advance

end Sys2Proof.Machine
end

