-- ==== Sys2Proof/Machine/Dispatch.lean ====
section
/-!
DEFINITION. The meaning of every instruction: one direct call per constructor.
-/

namespace Sys2Proof.Machine

/-- Run one decoded instruction in a state whose `cur` holds its prefixes and its length. -/
def exec (i : Instr) (s : State) : Host.Outcome State Fault Refusal :=
  match i with
  | .addEbRb e r => Sys2Proof.Machine.execAddEbRb e r s
  | .addEwRw e r => Sys2Proof.Machine.execAddEwRw e r s
  | .addRbEb r e => Sys2Proof.Machine.execAddRbEb r e s
  | .addRwEw r e => Sys2Proof.Machine.execAddRwEw r e s
  | .addAlDb b => Sys2Proof.Machine.execAddAlDb b s
  | .addAxDw w => Sys2Proof.Machine.execAddAxDw w s
  | .addEbDb e b => Sys2Proof.Machine.execAddEbDb e b s
  | .addEwDw e w => Sys2Proof.Machine.execAddEwDw e w s
  | .addEwDb e b => Sys2Proof.Machine.execAddEwDb e b s
  | .orEbRb e r => Sys2Proof.Machine.execOrEbRb e r s
  | .orEwRw e r => Sys2Proof.Machine.execOrEwRw e r s
  | .orRbEb r e => Sys2Proof.Machine.execOrRbEb r e s
  | .orRwEw r e => Sys2Proof.Machine.execOrRwEw r e s
  | .orAlDb b => Sys2Proof.Machine.execOrAlDb b s
  | .orAxDw w => Sys2Proof.Machine.execOrAxDw w s
  | .orEbDb e b => Sys2Proof.Machine.execOrEbDb e b s
  | .orEwDw e w => Sys2Proof.Machine.execOrEwDw e w s
  | .adcEbRb e r => Sys2Proof.Machine.execAdcEbRb e r s
  | .adcEwRw e r => Sys2Proof.Machine.execAdcEwRw e r s
  | .adcRbEb r e => Sys2Proof.Machine.execAdcRbEb r e s
  | .adcRwEw r e => Sys2Proof.Machine.execAdcRwEw r e s
  | .adcAlDb b => Sys2Proof.Machine.execAdcAlDb b s
  | .adcAxDw w => Sys2Proof.Machine.execAdcAxDw w s
  | .adcEbDb e b => Sys2Proof.Machine.execAdcEbDb e b s
  | .adcEwDw e w => Sys2Proof.Machine.execAdcEwDw e w s
  | .adcEwDb e b => Sys2Proof.Machine.execAdcEwDb e b s
  | .sbbEbRb e r => Sys2Proof.Machine.execSbbEbRb e r s
  | .sbbEwRw e r => Sys2Proof.Machine.execSbbEwRw e r s
  | .sbbRbEb r e => Sys2Proof.Machine.execSbbRbEb r e s
  | .sbbRwEw r e => Sys2Proof.Machine.execSbbRwEw r e s
  | .sbbAlDb b => Sys2Proof.Machine.execSbbAlDb b s
  | .sbbAxDw w => Sys2Proof.Machine.execSbbAxDw w s
  | .sbbEbDb e b => Sys2Proof.Machine.execSbbEbDb e b s
  | .sbbEwDw e w => Sys2Proof.Machine.execSbbEwDw e w s
  | .sbbEwDb e b => Sys2Proof.Machine.execSbbEwDb e b s
  | .andEbRb e r => Sys2Proof.Machine.execAndEbRb e r s
  | .andEwRw e r => Sys2Proof.Machine.execAndEwRw e r s
  | .andRbEb r e => Sys2Proof.Machine.execAndRbEb r e s
  | .andRwEw r e => Sys2Proof.Machine.execAndRwEw r e s
  | .andAlDb b => Sys2Proof.Machine.execAndAlDb b s
  | .andAxDw w => Sys2Proof.Machine.execAndAxDw w s
  | .andEbDb e b => Sys2Proof.Machine.execAndEbDb e b s
  | .andEwDw e w => Sys2Proof.Machine.execAndEwDw e w s
  | .subEbRb e r => Sys2Proof.Machine.execSubEbRb e r s
  | .subEwRw e r => Sys2Proof.Machine.execSubEwRw e r s
  | .subRbEb r e => Sys2Proof.Machine.execSubRbEb r e s
  | .subRwEw r e => Sys2Proof.Machine.execSubRwEw r e s
  | .subAlDb b => Sys2Proof.Machine.execSubAlDb b s
  | .subAxDw w => Sys2Proof.Machine.execSubAxDw w s
  | .subEbDb e b => Sys2Proof.Machine.execSubEbDb e b s
  | .subEwDw e w => Sys2Proof.Machine.execSubEwDw e w s
  | .subEwDb e b => Sys2Proof.Machine.execSubEwDb e b s
  | .xorEbRb e r => Sys2Proof.Machine.execXorEbRb e r s
  | .xorEwRw e r => Sys2Proof.Machine.execXorEwRw e r s
  | .xorRbEb r e => Sys2Proof.Machine.execXorRbEb r e s
  | .xorRwEw r e => Sys2Proof.Machine.execXorRwEw r e s
  | .xorAlDb b => Sys2Proof.Machine.execXorAlDb b s
  | .xorAxDw w => Sys2Proof.Machine.execXorAxDw w s
  | .xorEbDb e b => Sys2Proof.Machine.execXorEbDb e b s
  | .xorEwDw e w => Sys2Proof.Machine.execXorEwDw e w s
  | .cmpEbRb e r => Sys2Proof.Machine.execCmpEbRb e r s
  | .cmpEwRw e r => Sys2Proof.Machine.execCmpEwRw e r s
  | .cmpRbEb r e => Sys2Proof.Machine.execCmpRbEb r e s
  | .cmpRwEw r e => Sys2Proof.Machine.execCmpRwEw r e s
  | .cmpAlDb b => Sys2Proof.Machine.execCmpAlDb b s
  | .cmpAxDw w => Sys2Proof.Machine.execCmpAxDw w s
  | .cmpEbDb e b => Sys2Proof.Machine.execCmpEbDb e b s
  | .cmpEwDw e w => Sys2Proof.Machine.execCmpEwDw e w s
  | .cmpEwDb e b => Sys2Proof.Machine.execCmpEwDb e b s
  | .ud0F b => Sys2Proof.Machine.execUd0F b s
  | .incRw r => Sys2Proof.Machine.execIncRw r s
  | .decRw r => Sys2Proof.Machine.execDecRw r s
  | .pushRw r => Sys2Proof.Machine.execPushRw r s
  | .popRw r => Sys2Proof.Machine.execPopRw r s
  | .boundRwMd r e => Sys2Proof.Machine.execBoundRwMd r e s
  | .arplEwRw e r => Sys2Proof.Machine.execArplEwRw e r s
  | .pushDw w => Sys2Proof.Machine.execPushDw w s
  | .imulRwEwDw r e w => Sys2Proof.Machine.execImulRwEwDw r e w s
  | .pushDb b => Sys2Proof.Machine.execPushDb b s
  | .imulRwEwDb r e b => Sys2Proof.Machine.execImulRwEwDb r e b s
  | .joCb b => Sys2Proof.Machine.execJoCb b s
  | .jnoCb b => Sys2Proof.Machine.execJnoCb b s
  | .jbCb b => Sys2Proof.Machine.execJbCb b s
  | .jaeCb b => Sys2Proof.Machine.execJaeCb b s
  | .jeCb b => Sys2Proof.Machine.execJeCb b s
  | .jneCb b => Sys2Proof.Machine.execJneCb b s
  | .jbeCb b => Sys2Proof.Machine.execJbeCb b s
  | .jaCb b => Sys2Proof.Machine.execJaCb b s
  | .jsCb b => Sys2Proof.Machine.execJsCb b s
  | .jnsCb b => Sys2Proof.Machine.execJnsCb b s
  | .jpCb b => Sys2Proof.Machine.execJpCb b s
  | .jnpCb b => Sys2Proof.Machine.execJnpCb b s
  | .jlCb b => Sys2Proof.Machine.execJlCb b s
  | .jgeCb b => Sys2Proof.Machine.execJgeCb b s
  | .jleCb b => Sys2Proof.Machine.execJleCb b s
  | .jgCb b => Sys2Proof.Machine.execJgCb b s
  | .testEbRb e r => Sys2Proof.Machine.execTestEbRb e r s
  | .testEwRw e r => Sys2Proof.Machine.execTestEwRw e r s
  | .xchgEbRb e r => Sys2Proof.Machine.execXchgEbRb e r s
  | .xchgEwRw e r => Sys2Proof.Machine.execXchgEwRw e r s
  | .movEbRb e r => Sys2Proof.Machine.execMovEbRb e r s
  | .movEwRw e r => Sys2Proof.Machine.execMovEwRw e r s
  | .movRbEb r e => Sys2Proof.Machine.execMovRbEb r e s
  | .movRwEw r e => Sys2Proof.Machine.execMovRwEw r e s
  | .movEwEs e => Sys2Proof.Machine.execMovEwEs e s
  | .movEwCs e => Sys2Proof.Machine.execMovEwCs e s
  | .movEwSs e => Sys2Proof.Machine.execMovEwSs e s
  | .movEwDs e => Sys2Proof.Machine.execMovEwDs e s
  | .leaRwM r e => Sys2Proof.Machine.execLeaRwM r e s
  | .movEsEw e => Sys2Proof.Machine.execMovEsEw e s
  | .movSsEw e => Sys2Proof.Machine.execMovSsEw e s
  | .movDsEw e => Sys2Proof.Machine.execMovDsEw e s
  | .popMw e => Sys2Proof.Machine.execPopMw e s
  | .xchgAxRw r => Sys2Proof.Machine.execXchgAxRw r s
  | .callCd off sel => Sys2Proof.Machine.execCallCd off sel s
  | .movAlXb o => Sys2Proof.Machine.execMovAlXb o s
  | .movAxXw o => Sys2Proof.Machine.execMovAxXw o s
  | .movXbAl o => Sys2Proof.Machine.execMovXbAl o s
  | .movXwAx o => Sys2Proof.Machine.execMovXwAx o s
  | .testAlDb b => Sys2Proof.Machine.execTestAlDb b s
  | .testAxDw w => Sys2Proof.Machine.execTestAxDw w s
  | .movRbDb r b => Sys2Proof.Machine.execMovRbDb r b s
  | .movRwDw r w => Sys2Proof.Machine.execMovRwDw r w s
  | .rolEbDb e b => Sys2Proof.Machine.execRolEbDb e b s
  | .rorEbDb e b => Sys2Proof.Machine.execRorEbDb e b s
  | .rclEbDb e b => Sys2Proof.Machine.execRclEbDb e b s
  | .rcrEbDb e b => Sys2Proof.Machine.execRcrEbDb e b s
  | .salEbDb e b => Sys2Proof.Machine.execSalEbDb e b s
  | .shrEbDb e b => Sys2Proof.Machine.execShrEbDb e b s
  | .sarEbDb e b => Sys2Proof.Machine.execSarEbDb e b s
  | .rolEwDb e b => Sys2Proof.Machine.execRolEwDb e b s
  | .rorEwDb e b => Sys2Proof.Machine.execRorEwDb e b s
  | .rclEwDb e b => Sys2Proof.Machine.execRclEwDb e b s
  | .rcrEwDb e b => Sys2Proof.Machine.execRcrEwDb e b s
  | .salEwDb e b => Sys2Proof.Machine.execSalEwDb e b s
  | .shrEwDb e b => Sys2Proof.Machine.execShrEwDb e b s
  | .sarEwDb e b => Sys2Proof.Machine.execSarEwDb e b s
  | .rolEb1 e => Sys2Proof.Machine.execRolEb1 e s
  | .rorEb1 e => Sys2Proof.Machine.execRorEb1 e s
  | .rclEb1 e => Sys2Proof.Machine.execRclEb1 e s
  | .rcrEb1 e => Sys2Proof.Machine.execRcrEb1 e s
  | .salEb1 e => Sys2Proof.Machine.execSalEb1 e s
  | .shrEb1 e => Sys2Proof.Machine.execShrEb1 e s
  | .sarEb1 e => Sys2Proof.Machine.execSarEb1 e s
  | .rolEw1 e => Sys2Proof.Machine.execRolEw1 e s
  | .rorEw1 e => Sys2Proof.Machine.execRorEw1 e s
  | .rclEw1 e => Sys2Proof.Machine.execRclEw1 e s
  | .rcrEw1 e => Sys2Proof.Machine.execRcrEw1 e s
  | .salEw1 e => Sys2Proof.Machine.execSalEw1 e s
  | .shrEw1 e => Sys2Proof.Machine.execShrEw1 e s
  | .sarEw1 e => Sys2Proof.Machine.execSarEw1 e s
  | .rolEbCl e => Sys2Proof.Machine.execRolEbCl e s
  | .rorEbCl e => Sys2Proof.Machine.execRorEbCl e s
  | .rclEbCl e => Sys2Proof.Machine.execRclEbCl e s
  | .rcrEbCl e => Sys2Proof.Machine.execRcrEbCl e s
  | .salEbCl e => Sys2Proof.Machine.execSalEbCl e s
  | .shrEbCl e => Sys2Proof.Machine.execShrEbCl e s
  | .sarEbCl e => Sys2Proof.Machine.execSarEbCl e s
  | .rolEwCl e => Sys2Proof.Machine.execRolEwCl e s
  | .rorEwCl e => Sys2Proof.Machine.execRorEwCl e s
  | .rclEwCl e => Sys2Proof.Machine.execRclEwCl e s
  | .rcrEwCl e => Sys2Proof.Machine.execRcrEwCl e s
  | .salEwCl e => Sys2Proof.Machine.execSalEwCl e s
  | .shrEwCl e => Sys2Proof.Machine.execShrEwCl e s
  | .sarEwCl e => Sys2Proof.Machine.execSarEwCl e s
  | .retNearDw w => Sys2Proof.Machine.execRetNearDw w s
  | .lesRwEd r e => Sys2Proof.Machine.execLesRwEd r e s
  | .ldsRwEd r e => Sys2Proof.Machine.execLdsRwEd r e s
  | .movEbDb e b => Sys2Proof.Machine.execMovEbDb e b s
  | .movEwDw e w => Sys2Proof.Machine.execMovEwDw e w s
  | .enterDwDb w b => Sys2Proof.Machine.execEnterDwDb w b s
  | .retFarDw w => Sys2Proof.Machine.execRetFarDw w s
  | .intDb b => Sys2Proof.Machine.execIntDb b s
  | .esc op e => Sys2Proof.Machine.execEsc op e s
  | .loopneCb b => Sys2Proof.Machine.execLoopneCb b s
  | .loopeCb b => Sys2Proof.Machine.execLoopeCb b s
  | .loopCb b => Sys2Proof.Machine.execLoopCb b s
  | .jcxzCb b => Sys2Proof.Machine.execJcxzCb b s
  | .inAlDb b => Sys2Proof.Machine.execInAlDb b s
  | .inAxDb b => Sys2Proof.Machine.execInAxDb b s
  | .outDbAl b => Sys2Proof.Machine.execOutDbAl b s
  | .outDbAx b => Sys2Proof.Machine.execOutDbAx b s
  | .callCw w => Sys2Proof.Machine.execCallCw w s
  | .jmpCw w => Sys2Proof.Machine.execJmpCw w s
  | .jmpCd off sel => Sys2Proof.Machine.execJmpCd off sel s
  | .jmpCb b => Sys2Proof.Machine.execJmpCb b s
  | .testEbDb e b => Sys2Proof.Machine.execTestEbDb e b s
  | .notEb e => Sys2Proof.Machine.execNotEb e s
  | .negEb e => Sys2Proof.Machine.execNegEb e s
  | .mulEb e => Sys2Proof.Machine.execMulEb e s
  | .imulEb e => Sys2Proof.Machine.execImulEb e s
  | .divEb e => Sys2Proof.Machine.execDivEb e s
  | .idivEb e => Sys2Proof.Machine.execIdivEb e s
  | .testEwDw e w => Sys2Proof.Machine.execTestEwDw e w s
  | .notEw e => Sys2Proof.Machine.execNotEw e s
  | .negEw e => Sys2Proof.Machine.execNegEw e s
  | .mulEw e => Sys2Proof.Machine.execMulEw e s
  | .imulEw e => Sys2Proof.Machine.execImulEw e s
  | .divEw e => Sys2Proof.Machine.execDivEw e s
  | .idivEw e => Sys2Proof.Machine.execIdivEw e s
  | .incEb e => Sys2Proof.Machine.execIncEb e s
  | .decEb e => Sys2Proof.Machine.execDecEb e s
  | .incEw e => Sys2Proof.Machine.execIncEw e s
  | .decEw e => Sys2Proof.Machine.execDecEw e s
  | .callEw e => Sys2Proof.Machine.execCallEw e s
  | .callEd e => Sys2Proof.Machine.execCallEd e s
  | .jmpEw e => Sys2Proof.Machine.execJmpEw e s
  | .jmpMd e => Sys2Proof.Machine.execJmpMd e s
  | .pushMw e => Sys2Proof.Machine.execPushMw e s
  | .sldtEw e => Sys2Proof.Machine.execSldtEw e s
  | .strEw e => Sys2Proof.Machine.execStrEw e s
  | .lldtEw e => Sys2Proof.Machine.execLldtEw e s
  | .ltrEw e => Sys2Proof.Machine.execLtrEw e s
  | .verrEw e => Sys2Proof.Machine.execVerrEw e s
  | .verwEw e => Sys2Proof.Machine.execVerwEw e s
  | .sgdtM e => Sys2Proof.Machine.execSgdtM e s
  | .sidtM e => Sys2Proof.Machine.execSidtM e s
  | .lgdtM e => Sys2Proof.Machine.execLgdtM e s
  | .lidtM e => Sys2Proof.Machine.execLidtM e s
  | .smswEw e => Sys2Proof.Machine.execSmswEw e s
  | .lmswEw e => Sys2Proof.Machine.execLmswEw e s
  | .larRwEw r e => Sys2Proof.Machine.execLarRwEw r e s
  | .lslRwEw r e => Sys2Proof.Machine.execLslRwEw r e s
  | .ud83_1 => Sys2Proof.Machine.execUd83_1 s
  | .ud83_4 => Sys2Proof.Machine.execUd83_4 s
  | .ud83_6 => Sys2Proof.Machine.execUd83_6 s
  | .daa => Sys2Proof.Machine.execDaa s
  | .das => Sys2Proof.Machine.execDas s
  | .aaa => Sys2Proof.Machine.execAaa s
  | .aas => Sys2Proof.Machine.execAas s
  | .aam => Sys2Proof.Machine.execAam s
  | .aad => Sys2Proof.Machine.execAad s
  | .pushEs => Sys2Proof.Machine.execPushEs s
  | .pushCs => Sys2Proof.Machine.execPushCs s
  | .pushSs => Sys2Proof.Machine.execPushSs s
  | .pushDs => Sys2Proof.Machine.execPushDs s
  | .popEs => Sys2Proof.Machine.execPopEs s
  | .popSs => Sys2Proof.Machine.execPopSs s
  | .popDs => Sys2Proof.Machine.execPopDs s
  | .segEs => Sys2Proof.Machine.execSegEs s
  | .segCs => Sys2Proof.Machine.execSegCs s
  | .segSs => Sys2Proof.Machine.execSegSs s
  | .segDs => Sys2Proof.Machine.execSegDs s
  | .lock => Sys2Proof.Machine.execLock s
  | .repne => Sys2Proof.Machine.execRepne s
  | .rep => Sys2Proof.Machine.execRep s
  | .pusha => Sys2Proof.Machine.execPusha s
  | .popa => Sys2Proof.Machine.execPopa s
  | .ud64 => Sys2Proof.Machine.execUd64 s
  | .ud65 => Sys2Proof.Machine.execUd65 s
  | .ud66 => Sys2Proof.Machine.execUd66 s
  | .ud67 => Sys2Proof.Machine.execUd67 s
  | .insb => Sys2Proof.Machine.execInsb s
  | .insw => Sys2Proof.Machine.execInsw s
  | .outsb => Sys2Proof.Machine.execOutsb s
  | .outsw => Sys2Proof.Machine.execOutsw s
  | .ud82 => Sys2Proof.Machine.execUd82 s
  | .ud8C_4 => Sys2Proof.Machine.execUd8C_4 s
  | .ud8C_5 => Sys2Proof.Machine.execUd8C_5 s
  | .ud8C_6 => Sys2Proof.Machine.execUd8C_6 s
  | .ud8C_7 => Sys2Proof.Machine.execUd8C_7 s
  | .ud8E_1 => Sys2Proof.Machine.execUd8E_1 s
  | .ud8E_4 => Sys2Proof.Machine.execUd8E_4 s
  | .ud8E_5 => Sys2Proof.Machine.execUd8E_5 s
  | .ud8E_6 => Sys2Proof.Machine.execUd8E_6 s
  | .ud8E_7 => Sys2Proof.Machine.execUd8E_7 s
  | .gp8F_1 => Sys2Proof.Machine.execGp8F_1 s
  | .gp8F_2 => Sys2Proof.Machine.execGp8F_2 s
  | .gp8F_3 => Sys2Proof.Machine.execGp8F_3 s
  | .gp8F_4 => Sys2Proof.Machine.execGp8F_4 s
  | .gp8F_5 => Sys2Proof.Machine.execGp8F_5 s
  | .gp8F_6 => Sys2Proof.Machine.execGp8F_6 s
  | .gp8F_7 => Sys2Proof.Machine.execGp8F_7 s
  | .nop => Sys2Proof.Machine.execNop s
  | .cbw => Sys2Proof.Machine.execCbw s
  | .cwd => Sys2Proof.Machine.execCwd s
  | .wait => Sys2Proof.Machine.execWait s
  | .pushf => Sys2Proof.Machine.execPushf s
  | .popf => Sys2Proof.Machine.execPopf s
  | .sahf => Sys2Proof.Machine.execSahf s
  | .lahf => Sys2Proof.Machine.execLahf s
  | .movsb => Sys2Proof.Machine.execMovsb s
  | .movsw => Sys2Proof.Machine.execMovsw s
  | .cmpsb => Sys2Proof.Machine.execCmpsb s
  | .cmpsw => Sys2Proof.Machine.execCmpsw s
  | .stosb => Sys2Proof.Machine.execStosb s
  | .stosw => Sys2Proof.Machine.execStosw s
  | .lodsb => Sys2Proof.Machine.execLodsb s
  | .lodsw => Sys2Proof.Machine.execLodsw s
  | .scasb => Sys2Proof.Machine.execScasb s
  | .scasw => Sys2Proof.Machine.execScasw s
  | .udC0_6 => Sys2Proof.Machine.execUdC0_6 s
  | .udC1_6 => Sys2Proof.Machine.execUdC1_6 s
  | .udD0_6 => Sys2Proof.Machine.execUdD0_6 s
  | .udD1_6 => Sys2Proof.Machine.execUdD1_6 s
  | .udD2_6 => Sys2Proof.Machine.execUdD2_6 s
  | .udD3_6 => Sys2Proof.Machine.execUdD3_6 s
  | .retNear => Sys2Proof.Machine.execRetNear s
  | .udC6_1 => Sys2Proof.Machine.execUdC6_1 s
  | .udC6_2 => Sys2Proof.Machine.execUdC6_2 s
  | .udC6_3 => Sys2Proof.Machine.execUdC6_3 s
  | .udC6_4 => Sys2Proof.Machine.execUdC6_4 s
  | .udC6_5 => Sys2Proof.Machine.execUdC6_5 s
  | .udC6_6 => Sys2Proof.Machine.execUdC6_6 s
  | .udC6_7 => Sys2Proof.Machine.execUdC6_7 s
  | .udC7_1 => Sys2Proof.Machine.execUdC7_1 s
  | .udC7_2 => Sys2Proof.Machine.execUdC7_2 s
  | .udC7_3 => Sys2Proof.Machine.execUdC7_3 s
  | .udC7_4 => Sys2Proof.Machine.execUdC7_4 s
  | .udC7_5 => Sys2Proof.Machine.execUdC7_5 s
  | .udC7_6 => Sys2Proof.Machine.execUdC7_6 s
  | .udC7_7 => Sys2Proof.Machine.execUdC7_7 s
  | .leave => Sys2Proof.Machine.execLeave s
  | .retFar => Sys2Proof.Machine.execRetFar s
  | .int3 => Sys2Proof.Machine.execInt3 s
  | .into => Sys2Proof.Machine.execInto s
  | .iret => Sys2Proof.Machine.execIret s
  | .udD6 => Sys2Proof.Machine.execUdD6 s
  | .xlatb => Sys2Proof.Machine.execXlatb s
  | .inAlDx => Sys2Proof.Machine.execInAlDx s
  | .inAxDx => Sys2Proof.Machine.execInAxDx s
  | .outDxAl => Sys2Proof.Machine.execOutDxAl s
  | .outDxAx => Sys2Proof.Machine.execOutDxAx s
  | .udF1 => Sys2Proof.Machine.execUdF1 s
  | .hlt => Sys2Proof.Machine.execHlt s
  | .cmc => Sys2Proof.Machine.execCmc s
  | .udF6_1 => Sys2Proof.Machine.execUdF6_1 s
  | .udF7_1 => Sys2Proof.Machine.execUdF7_1 s
  | .clc => Sys2Proof.Machine.execClc s
  | .stc => Sys2Proof.Machine.execStc s
  | .cli => Sys2Proof.Machine.execCli s
  | .sti => Sys2Proof.Machine.execSti s
  | .cld => Sys2Proof.Machine.execCld s
  | .std => Sys2Proof.Machine.execStd s
  | .udFE_2 => Sys2Proof.Machine.execUdFE_2 s
  | .udFE_3 => Sys2Proof.Machine.execUdFE_3 s
  | .udFE_4 => Sys2Proof.Machine.execUdFE_4 s
  | .udFE_5 => Sys2Proof.Machine.execUdFE_5 s
  | .udFE_6 => Sys2Proof.Machine.execUdFE_6 s
  | .udFE_7 => Sys2Proof.Machine.execUdFE_7 s
  | .gpFF_7 => Sys2Proof.Machine.execGpFF_7 s
  | .ud0F00_6 => Sys2Proof.Machine.execUd0F00_6 s
  | .ud0F00_7 => Sys2Proof.Machine.execUd0F00_7 s
  | .ud0F01_5 => Sys2Proof.Machine.execUd0F01_5 s
  | .ud0F01_7 => Sys2Proof.Machine.execUd0F01_7 s
  | .clts => Sys2Proof.Machine.execClts s
  | .repInsb => Sys2Proof.Machine.execRepInsb s
  | .repInsw => Sys2Proof.Machine.execRepInsw s
  | .repMovsb => Sys2Proof.Machine.execRepMovsb s
  | .repMovsw => Sys2Proof.Machine.execRepMovsw s
  | .repOutsb => Sys2Proof.Machine.execRepOutsb s
  | .repOutsw => Sys2Proof.Machine.execRepOutsw s
  | .repStosb => Sys2Proof.Machine.execRepStosb s
  | .repStosw => Sys2Proof.Machine.execRepStosw s
  | .repLodsb => Sys2Proof.Machine.execRepLodsb s
  | .repLodsw => Sys2Proof.Machine.execRepLodsw s
  | .repeCmpsb => Sys2Proof.Machine.execRepeCmpsb s
  | .repeCmpsw => Sys2Proof.Machine.execRepeCmpsw s
  | .repeScasb => Sys2Proof.Machine.execRepeScasb s
  | .repeScasw => Sys2Proof.Machine.execRepeScasw s
  | .repneCmpsb => Sys2Proof.Machine.execRepneCmpsb s
  | .repneCmpsw => Sys2Proof.Machine.execRepneCmpsw s
  | .repneScasb => Sys2Proof.Machine.execRepneScasb s
  | .repneScasw => Sys2Proof.Machine.execRepneScasw s

end Sys2Proof.Machine
end

