-- ==== Sys2Proof/Machine/Cycle.lean ====
section
/-!
DEFINITION. One step of the machine (60 R790): RESET, the transfers of the processor extension, the events of the
boundary, the decoding loop (30 R290), the instruction, the single-step trap. Step.lean only calls it.
-/

namespace Sys2Proof.Machine

/-! ### RESET (70 R870, R871) -/

/-- The machine with RESET active (70 R871): the registers as after RESET, no activity. Memory, the environment and the
history of the I/O space are not the CPU's (log 23). DESIGN CHOICE: neither 10 R90 nor 70 R870 lists the operand that an
ESC left for its transfers; RESET drops it, as bus activity of the CPU, and requests of the extension wait (log 23). -/
def State.inReset (s : State) : State :=
  { State.reset with run := .reset, mem := s.mem, env := s.env, ioLog := s.ioLog, draw := s.draw }

/-! ### The boundary (60 R790 step 1, R795, R796) -/

/-- NMI is accepted. -/
def State.nmiReady (s : State) : Bool := (s.intInhibit != .ss) && s.nmiPending && !s.nmiMasked

/-- The processor extension segment overrun is accepted. -/
def State.overrunReady (s : State) : Bool := (s.intInhibit != .ss) && s.peOverrun && !s.nmiMasked

/-- NMI taken (60 R793). -/
def State.takeNmi (s : State) : State := { s with nmiPending := false, nmiMasked := true }

/-- The interrupt acknowledge sequence that returned `n` (60 R792). -/
def State.ackIntr (s : State) (n : Byte) (rest : List Byte) : State :=
  { s.logIo (.intAck n) with env := { s.env with intr := rest } }

/-- One event of the boundary, delivered; `none` when none is accepted. -/
def State.boundaryEvent (s : State) : Option State :=
  if s.nmiReady then some (s.takeNmi.extInt 2)
  else if s.overrunReady then some (State.extInt { s with peOverrun := false } 9)
  else
    match s.env.intr with
    | n :: rest => if s.intInhibit = .none && s.flags.ief then some ((s.ackIntr n rest).extInt n) else none
    | [] => none

/-- The events of a boundary, one after the other, while the CPU is not in shutdown. Each delivery uses up a pending
bit or one vector, so `length + 2` rounds are enough. -/
def boundaryLoop : Nat → State → State
  | 0, s => s
  | k + 1, s =>
    if s.run = .shutdown then s
    else
      match s.boundaryEvent with
      | some t => boundaryLoop k t
      | none => s

/-- The events of the boundary of a running or halted CPU. -/
def State.boundary (s : State) : State := boundaryLoop (s.env.intr.length + 3) s

/-- NMI in shutdown (60 R806, 92 D40): delivery, or shutdown again. -/
def State.nmiInShutdown (s : State) : State :=
  let t := s.takeNmi
  if t.msw.pe then
    match t.deliverProt { vec := 2, kind := .external, retIp := t.ip, err := none } with
    | .ok u => u
    | .error x => x.st.enterShutdown
  else if decide (0x000F ≤ t.idtr.limit.toNat) && decide (5 < (t.reg .sp).toNat) then t.deliverReal 2 t.ip
  else t

/-- The events of a boundary in the current run state. -/
def State.events (s : State) : State :=
  if s.run = .shutdown then (if s.nmiPending && !s.nmiMasked then s.nmiInShutdown.boundary else s)
  else s.boundary

/-! ### Fetch and decode (20 R114; 30 R290) -/

/-- At most `k` instruction bytes from CS:`off` on; fewer where the code segment ends. Offsets do not wrap, neither
inside an instruction nor after one that ended at FFFFH. -/
def State.fetch (s : State) : Nat → Nat → List Byte
  | 0, _ => []
  | k + 1, off =>
    if !s.pastEnd && decide (off < 0x10000) && s.segUsable .cs && s.inLimit s.cs (BitVec.ofNat 16 off) 1 then
      s.peek8 .cs (BitVec.ofNat 16 off) :: s.fetch k (off + 1)
    else []

/-- The longest token: an opcode, a ModRM byte, a displacement and an immediate word (30 R261). -/
def tokenBytes : Nat := 6

/-- An operand that must be in memory is a register. -/
def isRegForm (e : Ew) : Bool :=
  match e with
  | .reg _ => true
  | .mem _ => false

/-- Encodings that are invalid whatever the rest of the machine holds (30 R288): the rows of the table that say so, a
register where memory is required, and in Real Address Mode what that mode does not recognise. -/
def invalidForm (pe : Bool) : Instr → Bool
  | .boundRwMd _ e | .leaRwM _ e | .popMw e | .lesRwEd _ e | .ldsRwEd _ e | .callEd e | .jmpMd e | .pushMw e
  | .sgdtM e | .sidtM e | .lgdtM e | .lidtM e => isRegForm e
  | .arplEwRw _ _ | .sldtEw _ | .strEw _ | .lldtEw _ | .ltrEw _ | .verrEw _ | .verwEw _ | .larRwEw _ _
  | .lslRwEw _ _ => !pe
  | .ud0F _ | .ud83_1 | .ud83_4 | .ud83_6 | .ud64 | .ud65 | .ud66 | .ud67 | .ud82 | .ud8C_4 | .ud8C_5 | .ud8C_6
  | .ud8C_7 | .ud8E_1 | .ud8E_4 | .ud8E_5 | .ud8E_6 | .ud8E_7 | .gp8F_1 | .gp8F_2 | .gp8F_3 | .gp8F_4 | .gp8F_5
  | .gp8F_6 | .gp8F_7 | .udC0_6 | .udC1_6 | .udD0_6 | .udD1_6 | .udD2_6 | .udD3_6 | .udC6_1 | .udC6_2 | .udC6_3
  | .udC6_4 | .udC6_5 | .udC6_6 | .udC6_7 | .udC7_1 | .udC7_2 | .udC7_3 | .udC7_4 | .udC7_5 | .udC7_6 | .udC7_7
  | .udD6 | .udF1 | .udF6_1 | .udF7_1 | .udFE_2 | .udFE_3 | .udFE_4 | .udFE_5 | .udFE_6 | .udFE_7 | .gpFF_7
  | .ud0F00_6 | .ud0F00_7 | .ud0F01_5 | .ud0F01_7 => true
  | .addEbRb _ _ | .addEwRw _ _ | .addRbEb _ _ | .addRwEw _ _ | .addAlDb _ | .addAxDw _ | .addEbDb _ _
  | .addEwDw _ _ | .addEwDb _ _ | .orEbRb _ _ | .orEwRw _ _ | .orRbEb _ _ | .orRwEw _ _ | .orAlDb _ | .orAxDw _
  | .orEbDb _ _ | .orEwDw _ _ | .adcEbRb _ _ | .adcEwRw _ _ | .adcRbEb _ _ | .adcRwEw _ _ | .adcAlDb _ | .adcAxDw _
  | .adcEbDb _ _ | .adcEwDw _ _ | .adcEwDb _ _ | .sbbEbRb _ _ | .sbbEwRw _ _ | .sbbRbEb _ _ | .sbbRwEw _ _
  | .sbbAlDb _ | .sbbAxDw _ | .sbbEbDb _ _ | .sbbEwDw _ _ | .sbbEwDb _ _ | .andEbRb _ _ | .andEwRw _ _
  | .andRbEb _ _ | .andRwEw _ _ | .andAlDb _ | .andAxDw _ | .andEbDb _ _ | .andEwDw _ _ | .subEbRb _ _
  | .subEwRw _ _ | .subRbEb _ _ | .subRwEw _ _ | .subAlDb _ | .subAxDw _ | .subEbDb _ _ | .subEwDw _ _
  | .subEwDb _ _ | .xorEbRb _ _ | .xorEwRw _ _ | .xorRbEb _ _ | .xorRwEw _ _ | .xorAlDb _ | .xorAxDw _
  | .xorEbDb _ _ | .xorEwDw _ _ | .cmpEbRb _ _ | .cmpEwRw _ _ | .cmpRbEb _ _ | .cmpRwEw _ _ | .cmpAlDb _
  | .cmpAxDw _ | .cmpEbDb _ _ | .cmpEwDw _ _ | .cmpEwDb _ _ | .incRw _ | .decRw _ | .pushRw _ | .popRw _ | .pushDw _
  | .imulRwEwDw _ _ _ | .pushDb _ | .imulRwEwDb _ _ _ | .joCb _ | .jnoCb _ | .jbCb _ | .jaeCb _ | .jeCb _ | .jneCb _
  | .jbeCb _ | .jaCb _ | .jsCb _ | .jnsCb _ | .jpCb _ | .jnpCb _ | .jlCb _ | .jgeCb _ | .jleCb _ | .jgCb _
  | .testEbRb _ _ | .testEwRw _ _ | .xchgEbRb _ _ | .xchgEwRw _ _ | .movEbRb _ _ | .movEwRw _ _ | .movRbEb _ _
  | .movRwEw _ _ | .movEwEs _ | .movEwCs _ | .movEwSs _ | .movEwDs _ | .movEsEw _ | .movSsEw _ | .movDsEw _
  | .xchgAxRw _ | .callCd _ _ | .movAlXb _ | .movAxXw _ | .movXbAl _ | .movXwAx _ | .testAlDb _ | .testAxDw _
  | .movRbDb _ _ | .movRwDw _ _ | .rolEbDb _ _ | .rorEbDb _ _ | .rclEbDb _ _ | .rcrEbDb _ _ | .salEbDb _ _
  | .shrEbDb _ _ | .sarEbDb _ _ | .rolEwDb _ _ | .rorEwDb _ _ | .rclEwDb _ _ | .rcrEwDb _ _ | .salEwDb _ _
  | .shrEwDb _ _ | .sarEwDb _ _ | .rolEb1 _ | .rorEb1 _ | .rclEb1 _ | .rcrEb1 _ | .salEb1 _ | .shrEb1 _ | .sarEb1 _
  | .rolEw1 _ | .rorEw1 _ | .rclEw1 _ | .rcrEw1 _ | .salEw1 _ | .shrEw1 _ | .sarEw1 _ | .rolEbCl _ | .rorEbCl _
  | .rclEbCl _ | .rcrEbCl _ | .salEbCl _ | .shrEbCl _ | .sarEbCl _ | .rolEwCl _ | .rorEwCl _ | .rclEwCl _
  | .rcrEwCl _ | .salEwCl _ | .shrEwCl _ | .sarEwCl _ | .retNearDw _ | .movEbDb _ _ | .movEwDw _ _ | .enterDwDb _ _
  | .retFarDw _ | .intDb _ | .esc _ _ | .loopneCb _ | .loopeCb _ | .loopCb _ | .jcxzCb _ | .inAlDb _ | .inAxDb _
  | .outDbAl _ | .outDbAx _ | .callCw _ | .jmpCw _ | .jmpCd _ _ | .jmpCb _ | .testEbDb _ _ | .notEb _ | .negEb _
  | .mulEb _ | .imulEb _ | .divEb _ | .idivEb _ | .testEwDw _ _ | .notEw _ | .negEw _ | .mulEw _ | .imulEw _
  | .divEw _ | .idivEw _ | .incEb _ | .decEb _ | .incEw _ | .decEw _ | .callEw _ | .jmpEw _ | .smswEw _ | .lmswEw _
  | .daa | .das | .aaa | .aas | .aam | .aad | .pushEs | .pushCs | .pushSs | .pushDs | .popEs | .popSs | .popDs
  | .segEs | .segCs | .segSs | .segDs | .lock | .repne | .rep | .pusha | .popa | .insb | .insw | .outsb | .outsw
  | .nop | .cbw | .cwd | .wait | .pushf | .popf | .sahf | .lahf | .movsb | .movsw | .cmpsb | .cmpsw | .stosb
  | .stosw | .lodsb | .lodsw | .scasb | .scasw | .retNear | .leave | .retFar | .int3 | .into | .iret | .xlatb
  | .inAlDx | .inAxDx | .outDxAl | .outDxAx | .hlt | .cmc | .clc | .stc | .cli | .sti | .cld | .std | .clts
  | .repInsb | .repInsw | .repMovsb | .repMovsw | .repOutsb | .repOutsw | .repStosb | .repStosw | .repLodsb
  | .repLodsw | .repeCmpsb | .repeCmpsw | .repeScasb | .repeScasw | .repneCmpsb | .repneCmpsw | .repneScasb
  | .repneScasw => false

/-- A prefix byte alone: the decoding loop goes on after it (30 R290 step 2). -/
def isPrefix (i : Instr) : Bool :=
  i == .segEs || i == .segCs || i == .segSs || i == .segDs || i == .lock || i == .rep || i == .repne

/-- `n` bytes of the instruction consumed in all. -/
def State.consumed (s : State) (n : Nat) : State := { s with cur := { s.cur with len := n } }

/-- The instruction after its prefixes (30 R290 steps 6-9): length, validity, LOCK, then its meaning. -/
def runMain (i : Instr) (s : State) : Out :=
  if 10 < s.cur.len then .next (s.raise .ud)
  else if invalidForm s.msw.pe i then exec i s
  else if s.cur.lock && s.untrusted then .next (s.raise (.gp 0))
  else exec i s

/-- Two bytes that are refused as an instruction (93 U3), after the checks that come before an instruction's meaning
(30 R290 steps 6, 8). -/
def refuseMain (r : Refusal) (s : State) : Out :=
  if 10 < s.cur.len + 2 then .next (s.raise .ud)
  else if s.cur.lock && s.untrusted then .next (s.raise (.gp 0))
  else .refused r

/-- The decoding loop (30 R290): tokens are read at IP + the bytes already consumed; a prefix latches its variable and
the loop goes on. A code segment holds at most 65536 prefix bytes. -/
def runTokens : Nat → State → Out
  | 0, s => .next (s.raise (.gp 0))
  | k + 1, s =>
    let bs := s.fetch tokenBytes (s.ip.toNat + s.cur.len)
    match decode bs with
    | .error .truncated => .next (s.raise (.gp 0))
    | .error (.aamBase b) => refuseMain (.aamBase b) s
    | .error (.aadBase b) => refuseMain (.aadBase b) s
    | .ok (i, rest) =>
      let t := s.consumed (s.cur.len + (bs.length - rest.length))
      if isPrefix i then
        match exec i t with
        | .next u => runTokens k u
        | .fault f => .fault f
        | .refused r => .refused r
      else runMain i t

/-- The rounds of the decoding loop. -/
def tokenFuel : Nat := 65537

/-! ### The instruction and its trap (60 R790 steps 2-4) -/

/-- Step 2: TF latched, the inhibit cleared, no byte consumed yet. -/
def State.begin (s : State) : State :=
  { s with tfAtStart := s.flags.tf, intInhibit := .none, cur := Cur.empty, waiting := .none }

/-- The single-step trap follows this instruction (60 R801): TF was set when it began, it did not load SS, it is no WAIT or ESC
still waiting, and the CPU is not in shutdown. -/
def State.trapsNow (s : State) : Bool :=
  s.tfAtStart && (s.intInhibit != .ss) && (s.waiting = .none) && (s.run != .shutdown)

/-- Step 4, with the decoder's variables empty again. -/
def State.afterInstr (s : State) : State :=
  let t := { s with cur := Cur.empty }
  if t.trapsNow then t.extInt 1 else t

/-- Steps 2-4 for one instruction, or one iteration of a repeated string instruction. -/
def State.instrCycle (s : State) : Out :=
  match runTokens tokenFuel s.begin with
  | .next t => .next t.afterInstr
  | .fault f => .fault f
  | .refused r => .refused r

/-- The run state when RESET is inactive: the CPU leaves `reset` (70 R870). -/
def State.released (s : State) : State := if s.run = .reset then { s with run := .running } else s

/-- The machine at the boundary before an instruction: the transfers the extension has asked for, then the events. An
ESC that waits for the extension is not interruptible: no event comes before it has ended (60 R794 (c); log 41). -/
def State.atBoundary (s : State) : State :=
  if s.waiting = .esc then s.released.serviceAll else s.released.serviceAll.events

/-- One step. -/
def State.cycle (s : State) : Out :=
  if s.env.reset then .next s.inReset
  else if s.atBoundary.run = .running then s.atBoundary.instrCycle
  else .next s.atBoundary

/-! ### Placing an instruction where the next step fetches it -/

/-- The bytes stored at CS:`off` and after, wrapping at the end of the segment's 64K. -/
def State.placeCode (s : State) (off : Word) : List Byte → State
  | [] => s
  | b :: t => (s.poke8 .cs off b).placeCode (off + 1) t

end Sys2Proof.Machine
end

