-- ==== Sys2Proof/Machine/Step.lean ====
section
/-!
DEFINITION. The step (60 R790), and the placing of one instruction where it fetches.
-/

namespace Sys2Proof.Machine

/-- One step: the events of the boundary, then one instruction or one iteration of a repeated string instruction. -/
def step (s : State) : Host.Outcome State Fault Refusal := s.cycle

/-- `s` with the instruction whose `nbits` bits are `w`, every further bit 0, stored at CS:IP, where the fetch finds
it. -/
def State.withFetchWord (s : State) (nbits w : Nat) : State :=
  { s with pastEnd := false }.placeCode s.ip (tableBytes nbits w)

end Sys2Proof.Machine
end

