-- ==== Sys2Proof/Safety.lean ====
section
/-!
DEFINITION. The terms in which statements are made: what two states have in common, what a store leaves in memory, the
machine's invariant, and a boundary at which nothing but the instruction happens.
-/

namespace Sys2Proof.Machine

/-! ### Memory -/

/-- The number of the cell at a physical address, after the A20 mask (20 R104). -/
def State.cell (s : State) (a : Addr) : Nat := (s.busAddr a).toNat

/-- The cells of the word at a physical address. -/
def State.wordCells (s : State) (a : Addr) : List Nat := [s.cell a, s.cell (a + 1)]

/-- The two states read the same at every cell outside `l`. -/
def SameMemoryBut (s t : State) (l : List Nat) : Prop := ∀ k, k ∉ l → readCell t.mem k = readCell s.mem k

/-- Cell `k` holds `v` after a store made in `s`, unless its region ignores writes (92 D1). -/
def HoldsByte (s t : State) (k : Nat) (v : Byte) : Prop := s.isRom k = false → readCell t.mem k = v

/-- The word at a physical address is `v` after a store made in `s`, low byte first (20 R101). -/
def HoldsWord (s t : State) (a : Addr) (v : Word) : Prop :=
  HoldsByte s t (s.cell a) v.lo ∧ HoldsByte s t (s.cell (a + 1)) v.hi

/-! ### Registers -/

/-- The word registers outside `l` are the same. -/
def SameRegsBut (s t : State) (l : List Reg16) : Prop := ∀ r, r ∉ l → t.reg r = s.reg r

/-- Every register is the same but the byte register `r`: the other half of its word is kept too (10 R41). -/
def SameRegsBut8 (s t : State) (r : Reg8) : Prop :=
  (∀ q, q ≠ r → t.reg8 q = s.reg8 q) ∧ SameRegsBut s t [.ax, .cx, .dx, .bx]

/-- TF, IF, DF, IOPL and NT are the same. -/
def SameControlFlags (f g : Flags) : Prop :=
  g.tf = f.tf ∧ g.ief = f.ief ∧ g.df = f.df ∧ g.iopl = f.iopl ∧ g.nt = f.nt

/-- SF, ZF and PF describe the result `r` (10 R48). -/
def ResultFlags {n : Nat} (g : Flags) (r : BitVec n) : Prop :=
  g.sf = r.msb ∧ (g.zf = true ↔ r = 0) ∧ g.pf = evenParity (r.setWidth 8)

/-- The descriptor table registers, LDTR and TR are the same. -/
def SameTables (s t : State) : Prop := t.gdtr = s.gdtr ∧ t.idtr = s.idtr ∧ t.ldtr = s.ldtr ∧ t.tr = s.tr

/-- The four segment registers with their caches are the same. -/
def SameSegs (s t : State) : Prop := t.cs = s.cs ∧ t.ss = s.ss ∧ t.ds = s.ds ∧ t.es = s.es

/-- The hidden state of interrupts and of the decoder, the run state, the extension's operand, the I/O history and the
environment are the same. -/
def SameHidden (s t : State) : Prop :=
  t.nmiPending = s.nmiPending ∧ t.nmiMasked = s.nmiMasked ∧ t.peOverrun = s.peOverrun ∧ t.intInhibit = s.intInhibit ∧
  t.tfAtStart = s.tfAtStart ∧ t.run = s.run ∧ t.cur = s.cur ∧ t.waiting = s.waiting ∧ t.extOp = s.extOp ∧
  t.ioLog = s.ioLog ∧ t.env = s.env

/-- Everything but the general registers, IP with its mark `pastEnd` (log 40), FLAGS, memory and the model's own draw
counter is the same. -/
def SameSystem (s t : State) : Prop := t.msw = s.msw ∧ SameSegs s t ∧ SameTables s t ∧ SameHidden s t

/-! ### The effect of writing an operand -/

/-- The physical address of a memory operand. -/
def State.memAddr (s : State) (m : MemRef) : Addr := s.linear (s.memSeg m) (s.ea m)

/-- `t` differs from `s` in registers and memory only by `v` at the operand `e`. -/
def WroteEb (s t : State) (e : Eb) (v : Byte) : Prop :=
  match e with
  | .reg r => t.reg8 r = v ∧ SameRegsBut8 s t r ∧ SameMemoryBut s t []
  | .mem m => HoldsByte s t (s.cell (s.memAddr m)) v ∧ SameRegsBut s t [] ∧
      SameMemoryBut s t [s.cell (s.memAddr m)]

/-- `t` differs from `s` in registers and memory only by `v` at the operand `e`. -/
def WroteEw (s t : State) (e : Ew) (v : Word) : Prop :=
  match e with
  | .reg r => t.reg r = v ∧ SameRegsBut s t [r] ∧ SameMemoryBut s t []
  | .mem m => HoldsWord s t (s.memAddr m) v ∧ SameRegsBut s t [] ∧
      SameMemoryBut s t (s.wordCells (s.memAddr m))

/-- Registers and memory are the same. -/
def WroteNothing (s t : State) : Prop := SameRegsBut s t [] ∧ SameMemoryBut s t []

/-- Only the word register `r` changed, to `v`; memory is the same. -/
def WroteReg (s t : State) (r : Reg16) (v : Word) : Prop := WroteEw s t (.reg r) v

/-- The word at SS:SP - `k`, as a physical address. -/
def State.stackAddr (s : State) (k : Word) : Addr := s.linear .ss (s.spDown k)

/-! ### How an instruction ends -/

/-- The instruction completes: it writes `v` at `e`, its flags are as `F` says, IP is at the next instruction, and
nothing else changes. -/
def EndsEb (i : Instr) (s : State) (e : Eb) (v : Byte) (F : Flags → Prop) : Prop :=
  ∃ t, exec i s = .next t ∧ WroteEb s t e v ∧ F t.flags ∧ t.ip = s.nextIp ∧ SameSystem s t

/-- The same for a word operand. -/
def EndsEw (i : Instr) (s : State) (e : Ew) (v : Word) (F : Flags → Prop) : Prop :=
  ∃ t, exec i s = .next t ∧ WroteEw s t e v ∧ F t.flags ∧ t.ip = s.nextIp ∧ SameSystem s t

/-- The same for an instruction that writes flags only. -/
def EndsFlags (i : Instr) (s : State) (F : Flags → Prop) : Prop :=
  ∃ t, exec i s = .next t ∧ WroteNothing s t ∧ F t.flags ∧ t.ip = s.nextIp ∧ SameSystem s t

/-- The instruction completes with the next state `t`, and everything but what `P` speaks of is left to `P`. -/
def Ends (i : Instr) (s : State) (P : State → Prop) : Prop := ∃ t, exec i s = .next t ∧ P t

/-- Memory is the same. -/
def SameMemory (s t : State) : Prop := SameMemoryBut s t []

/-! ### Flags of a result, as the manual's tables say them -/

/-- A signed number of `n` bits. -/
def FitsSigned (n : Nat) (x : Int) : Prop := -(2 ^ (n - 1)) ≤ x ∧ x < 2 ^ (n - 1)

/-- The result and the flags of `a + b + c` (10 R48, 41 R380). -/
structure AddSays {n : Nat} (a b : BitVec n) (c : Bool) (f g : Flags) (r : BitVec n) : Prop where
  value : r.toNat = (a.toNat + b.toNat + c.toNat) % 2 ^ n
  carry : g.cf = true ↔ 2 ^ n ≤ a.toNat + b.toNat + c.toNat
  auxiliary : g.af = true ↔ 16 ≤ a.toNat % 16 + b.toNat % 16 + c.toNat
  overflow : g.of = true ↔ ¬FitsSigned n (a.toInt + b.toInt + c.toNat)
  result : ResultFlags g r
  control : SameControlFlags f g

/-- The result and the flags of `a - b - c` (10 R48, 41 R380). -/
structure SubSays {n : Nat} (a b : BitVec n) (c : Bool) (f g : Flags) (r : BitVec n) : Prop where
  value : (r.toNat + b.toNat + c.toNat) % 2 ^ n = a.toNat
  borrow : g.cf = true ↔ a.toNat < b.toNat + c.toNat
  auxiliary : g.af = true ↔ a.toNat % 16 < b.toNat % 16 + c.toNat
  overflow : g.of = true ↔ ¬FitsSigned n (a.toInt - b.toInt - c.toNat)
  result : ResultFlags g r
  control : SameControlFlags f g

/-- The flags of AND, OR, XOR, TEST with result `r`; AF is undefined (42 R440). -/
structure LogicSays {n : Nat} (r : BitVec n) (f g : Flags) : Prop where
  overflow : g.of = false
  carry : g.cf = false
  result : ResultFlags g r
  control : SameControlFlags f g

/-- `i` adds `b` and `c` to the operand `e`. -/
def AddsEb (i : Instr) (s : State) (e : Eb) (b : Byte) (c : Bool) : Prop :=
  ∃ v, EndsEb i s e v fun g => AddSays (s.getEb e) b c s.flags g v

/-- `i` adds `b` and `c` to the operand `e`. -/
def AddsEw (i : Instr) (s : State) (e : Ew) (b : Word) (c : Bool) : Prop :=
  ∃ v, EndsEw i s e v fun g => AddSays (s.getEw e) b c s.flags g v

/-- `i` subtracts `b` and `c` from the operand `e`. -/
def SubsEb (i : Instr) (s : State) (e : Eb) (b : Byte) (c : Bool) : Prop :=
  ∃ v, EndsEb i s e v fun g => SubSays (s.getEb e) b c s.flags g v

/-- `i` subtracts `b` and `c` from the operand `e`. -/
def SubsEw (i : Instr) (s : State) (e : Ew) (b : Word) (c : Bool) : Prop :=
  ∃ v, EndsEw i s e v fun g => SubSays (s.getEw e) b c s.flags g v

/-- `i` sets the flags of `a - b` and stores nothing. -/
def Compares {n : Nat} (i : Instr) (s : State) (a b : BitVec n) : Prop :=
  ∃ r, EndsFlags i s fun g => SubSays a b false s.flags g r

/-- `i` leaves `r` at the byte operand `e` with the flags of a logical result. -/
def LogicEb (i : Instr) (s : State) (e : Eb) (r : Byte) : Prop := EndsEb i s e r fun g => LogicSays r s.flags g

/-- `i` leaves `r` at the word operand `e` with the flags of a logical result. -/
def LogicEw (i : Instr) (s : State) (e : Ew) (r : Word) : Prop := EndsEw i s e r fun g => LogicSays r s.flags g

/-- `i` sets the flags of the logical result `r` and stores nothing. -/
def Tests {n : Nat} (i : Instr) (s : State) (r : BitVec n) : Prop := EndsFlags i s fun g => LogicSays r s.flags g

/-- `i` copies `v` to the byte operand `e`; flags are kept. -/
def MovesEb (i : Instr) (s : State) (e : Eb) (v : Byte) : Prop := EndsEb i s e v fun g => g = s.flags

/-- `i` copies `v` to the word operand `e`; flags are kept. -/
def MovesEw (i : Instr) (s : State) (e : Ew) (v : Word) : Prop := EndsEw i s e v fun g => g = s.flags

/-- `g` is `f` with the flags that `AddSays` or `SubSays` gives, but CF as it was (41 R386, R387). -/
def ButCarry (f g : Flags) (P : Flags → Prop) : Prop := g.cf = f.cf ∧ ∃ c, P { g with cf := c }

/-! ### Multiplication, division, shifts -/

/-- `i` completes as a multiplication: registers outside `l` and the control flags are kept, `P` holds of the result,
CF and OF are set exactly when the product does not fit (41 R390-R392); SF, ZF, AF, PF are undefined. -/
def Multiplies (i : Instr) (s : State) (l : List Reg16) (fits : Prop) (P : State → Prop) : Prop :=
  Ends i s fun t => P t ∧ (t.flags.cf = true ↔ ¬fits) ∧ t.flags.of = t.flags.cf ∧ SameControlFlags s.flags t.flags ∧
    SameRegsBut s t l ∧ SameMemory s t ∧ t.ip = s.nextIp ∧ SameSystem s t

/-- `i` completes as a division: `P` holds of quotient and remainder; the status flags are undefined (41 R393, R394). -/
def Divides (i : Instr) (s : State) (l : List Reg16) (P : State → Prop) : Prop :=
  Ends i s fun t => P t ∧ SameControlFlags s.flags t.flags ∧ SameRegsBut s t l ∧ SameMemory s t ∧ t.ip = s.nextIp ∧
    SameSystem s t

/-- The seven shifts and rotates (42 R448). -/
inductive ShiftKind where
  | rol | ror | rcl | rcr | sal | shr | sar
  deriving DecidableEq, Repr

/-- The kind is a shift, not a rotate. -/
def ShiftKind.isShift : ShiftKind → Bool
  | .sal | .shr | .sar => true
  | .rol | .ror | .rcl | .rcr => false

/-- One step of the kind on the operand and CF (42 R450-R456). -/
def ShiftKind.step {n : Nat} : ShiftKind → BitVec n × Bool → BitVec n × Bool
  | .rol => rolStep | .ror => rorStep | .rcl => rclStep | .rcr => rcrStep
  | .sal => salStep | .shr => shrStep | .sar => sarStep

/-- OF of a single step that takes the operand and CF from `o` to `y` (42 R450-R456). -/
def ShiftKind.overflow {n : Nat} (k : ShiftKind) (o y : BitVec n × Bool) : Bool :=
  match k with
  | .rol | .rcl | .sal => y.2 ^^ y.1.msb
  | .ror => y.1.msb ^^ o.1.msb
  | .rcr => o.2 ^^ o.1.msb
  | .shr => o.1.msb
  | .sar => false

/-- The result and flags of `count` steps (42 R449-R456): nothing changes for a count of 0; OF is defined for a count of
1 only; a rotate keeps SF, ZF, AF, PF; a shift sets SF, ZF, PF and leaves AF undefined. -/
structure ShiftSays {n : Nat} (k : ShiftKind) (count : Nat) (x : BitVec n) (f g : Flags) (v : BitVec n) : Prop where
  value : v = (Nat.repeat k.step count (x, f.cf)).1
  carry : g.cf = (Nat.repeat k.step count (x, f.cf)).2
  zero : count = 0 → g = f
  single : count = 1 → g.of = k.overflow (x, f.cf) (v, g.cf)
  control : SameControlFlags f g
  shift : count ≠ 0 → k.isShift = true → ResultFlags g v
  rotate : k.isShift = false → g.sf = f.sf ∧ g.zf = f.zf ∧ g.af = f.af ∧ g.pf = f.pf

/-- `D0 /n`. -/
def ShiftKind.byteOne (k : ShiftKind) (e : Eb) : Instr :=
  match k with
  | .rol => .rolEb1 e | .ror => .rorEb1 e | .rcl => .rclEb1 e | .rcr => .rcrEb1 e
  | .sal => .salEb1 e | .shr => .shrEb1 e | .sar => .sarEb1 e

/-- `D1 /n`. -/
def ShiftKind.wordOne (k : ShiftKind) (e : Ew) : Instr :=
  match k with
  | .rol => .rolEw1 e | .ror => .rorEw1 e | .rcl => .rclEw1 e | .rcr => .rcrEw1 e
  | .sal => .salEw1 e | .shr => .shrEw1 e | .sar => .sarEw1 e

/-- `D2 /n`. -/
def ShiftKind.byteCl (k : ShiftKind) (e : Eb) : Instr :=
  match k with
  | .rol => .rolEbCl e | .ror => .rorEbCl e | .rcl => .rclEbCl e | .rcr => .rcrEbCl e
  | .sal => .salEbCl e | .shr => .shrEbCl e | .sar => .sarEbCl e

/-- `D3 /n`. -/
def ShiftKind.wordCl (k : ShiftKind) (e : Ew) : Instr :=
  match k with
  | .rol => .rolEwCl e | .ror => .rorEwCl e | .rcl => .rclEwCl e | .rcr => .rcrEwCl e
  | .sal => .salEwCl e | .shr => .shrEwCl e | .sar => .sarEwCl e

/-- `C0 /n db`. -/
def ShiftKind.byteImm (k : ShiftKind) (e : Eb) (b : Byte) : Instr :=
  match k with
  | .rol => .rolEbDb e b | .ror => .rorEbDb e b | .rcl => .rclEbDb e b | .rcr => .rcrEbDb e b
  | .sal => .salEbDb e b | .shr => .shrEbDb e b | .sar => .sarEbDb e b

/-- `C1 /n db`. -/
def ShiftKind.wordImm (k : ShiftKind) (e : Ew) (b : Byte) : Instr :=
  match k with
  | .rol => .rolEwDb e b | .ror => .rorEwDb e b | .rcl => .rclEwDb e b | .rcr => .rcrEwDb e b
  | .sal => .salEwDb e b | .shr => .shrEwDb e b | .sar => .sarEwDb e b

/-- `i` shifts or rotates the byte operand `e` by `count`. -/
def ShiftsEb (i : Instr) (s : State) (k : ShiftKind) (count : Nat) (e : Eb) : Prop :=
  ∃ v, EndsEb i s e v fun g => ShiftSays k count (s.getEb e) s.flags g v

/-- `i` shifts or rotates the word operand `e` by `count`. -/
def ShiftsEw (i : Instr) (s : State) (k : ShiftKind) (count : Nat) (e : Ew) : Prop :=
  ∃ v, EndsEw i s e v fun g => ShiftSays k count (s.getEw e) s.flags g v

/-! ### The stack and segment loads -/

/-- The word `v` was pushed: at SS:SP-2, with SP there; nothing else in registers or memory changed (10 R43). -/
def Pushed (s t : State) (v : Word) : Prop :=
  HoldsWord s t (s.stackAddr 2) v ∧ SameMemoryBut s t (s.wordCells (s.stackAddr 2)) ∧
  t.reg .sp = s.reg .sp - 2 ∧ SameRegsBut s t [.sp]

/-- `i` completes as a push of `v`: flags and the rest are kept. -/
def PushesWord (i : Instr) (s : State) (v : Word) : Prop :=
  Ends i s fun t => Pushed s t v ∧ t.flags = s.flags ∧ t.ip = s.nextIp ∧ SameSystem s t

/-- The segment register `r` was loaded with `sel` as its mode says (10 R54; 21 R190-R192), and IP advanced; no other
segment register, no flag and nothing of the rest of the system changed, but a load of SS holds off interrupts (10 R72).
General registers are left to the statement. -/
structure SregLoaded (s t : State) (r : SReg) (sel : Word) : Prop where
  /-- Real Address Mode: the base is sixteen times the selector. -/
  real : s.msw.pe = false → (t.seg r).sel = sel ∧ (t.seg r).base.toNat = 16 * sel.toNat ∧ (t.seg r).limit = 0xFFFF ∧
    (t.seg r).valid = true ∧ SameMemory s t
  /-- Protected Mode, a null selector: the register is marked invalid. -/
  null : s.msw.pe = true → selNull sel = true → (t.seg r).sel = sel ∧ (t.seg r).valid = false ∧ SameMemory s t
  /-- Protected Mode: the cache is that of the descriptor, whose Accessed bit is set in memory. -/
  descriptor : s.msw.pe = true → selNull sel = false → (t.seg r).sel = sel ∧ (t.seg r).base = (s.desc sel).base ∧
    (t.seg r).limit = (s.desc sel).limit ∧ (t.seg r).access = (s.desc sel).access ||| 1 ∧ (t.seg r).valid = true ∧
    HoldsByte s t (s.cell (s.descAddr sel + 5)) ((s.desc sel).access ||| 1) ∧
    SameMemoryBut s t [s.cell (s.descAddr sel + 5)]
  others : ∀ q, q ≠ r → t.seg q = s.seg q
  msw : t.msw = s.msw
  tables : SameTables s t
  hidden : SameHidden (if r = .ss then s.inhibit .ss else s) t
  flags : t.flags = s.flags
  ip : t.ip = s.nextIp

/-! ### String primitives -/

/-- The unrepeated instruction. -/
def StrOp.plain (op : StrOp) (wide : Bool) : Instr :=
  match op with
  | .movs => if wide then .movsw else .movsb
  | .cmps => if wide then .cmpsw else .cmpsb
  | .scas => if wide then .scasw else .scasb
  | .lods => if wide then .lodsw else .lodsb
  | .stos => if wide then .stosw else .stosb
  | .ins => if wide then .insw else .insb
  | .outs => if wide then .outsw else .outsb

/-- The instruction with F3 directly before its opcode. -/
def StrOp.withF3 (op : StrOp) (wide : Bool) : Instr :=
  match op with
  | .movs => if wide then .repMovsw else .repMovsb
  | .cmps => if wide then .repeCmpsw else .repeCmpsb
  | .scas => if wide then .repeScasw else .repeScasb
  | .lods => if wide then .repLodsw else .repLodsb
  | .stos => if wide then .repStosw else .repStosb
  | .ins => if wide then .repInsw else .repInsb
  | .outs => if wide then .repOutsw else .repOutsb

/-- `i` is the primitive `op` repeated by `rep`: a row of the table with its prefix, or the plain opcode after a repeat
prefix that stands further ahead (30 R262). -/
inductive Repeats (s : State) (op : StrOp) (wide : Bool) : Instr → Rep → Prop where
  | f3 : Repeats s op wide (op.withF3 wide) .repe
  | f2Cmps : op = .cmps → Repeats s op wide (if wide then .repneCmpsw else .repneCmpsb) .repne
  | f2Scas : op = .scas → Repeats s op wide (if wide then .repneScasw else .repneScasb) .repne
  | apart (r : Rep) : s.cur.rep = some r → Repeats s op wide (op.plain wide) r

/-- The accesses of one primitive are allowed: IOPL for INS and OUTS (46 R610), then source and destination. -/
structure StrReady (s : State) (op : StrOp) (wide : Bool) : Prop where
  trusted : op.isIo = true → s.untrusted = false
  source : op.hasSource = true → s.check (s.segOr .ds) (s.reg .si) (elemBytes wide) false = .ok ()
  destination : op.hasDest = true → s.check .es (s.reg .di) (elemBytes wide) op.writesDest = .ok ()

/-- The element `v` was stored at ES:DI. -/
def StoredElement (s t : State) (wide : Bool) (v : Word) : Prop :=
  let a := s.linear .es (s.reg .di)
  if wide then HoldsWord s t a v ∧ SameMemoryBut s t (s.wordCells a)
  else HoldsByte s t (s.cell a) v.lo ∧ SameMemoryBut s t [s.cell a]

/-- The flags are those of the element `a` minus the element `b`. -/
def ComparedElements (wide : Bool) (a b : Word) (f g : Flags) : Prop :=
  if wide then ∃ r, SubSays a b false f g r else ∃ r, SubSays a.lo b.lo false f g r

/-- One primitive was done, pointer advance included (43 R480-R486; 46 R614, R615). CX and IP are left to the
statement. -/
structure StrEffect (s t : State) (op : StrOp) (wide : Bool) : Prop where
  si : t.reg .si = if op.hasSource then (if s.flags.df then s.reg .si - BitVec.ofNat 16 (elemBytes wide)
    else s.reg .si + BitVec.ofNat 16 (elemBytes wide)) else s.reg .si
  di : t.reg .di = if op.hasDest then (if s.flags.df then s.reg .di - BitVec.ofNat 16 (elemBytes wide)
    else s.reg .di + BitVec.ofNat 16 (elemBytes wide)) else s.reg .di
  load : op = .lods → if wide then t.reg .ax = s.peek16 (s.segOr .ds) (s.reg .si)
    else t.reg8 .al = s.peek8 (s.segOr .ds) (s.reg .si) ∧ t.reg8 .ah = s.reg8 .ah
  noLoad : op ≠ .lods → t.reg .ax = s.reg .ax
  registers : SameRegsBut s t [.ax, .cx, .si, .di]
  move : op = .movs → StoredElement s t wide (s.strLoad (s.segOr .ds) (s.reg .si) wide)
  store : op = .stos → StoredElement s t wide (s.strAcc wide)
  input : op = .ins → StoredElement s t wide (s.strIn wide) ∧ t.ioLog = (s.afterStrIn wide).ioLog
  output : op = .outs → t.ioLog = (s.strOut wide (s.strLoad (s.segOr .ds) (s.reg .si) wide)).ioLog
  noIo : op.isIo = false → t.ioLog = s.ioLog
  noStore : op.writesDest = false → SameMemory s t
  compare : op = .cmps → ComparedElements wide (s.strLoad (s.segOr .ds) (s.reg .si) wide)
    (s.strLoad .es (s.reg .di) wide) s.flags t.flags
  scan : op = .scas → ComparedElements wide (s.strAcc wide) (s.strLoad .es (s.reg .di) wide) s.flags t.flags
  noFlags : op.compares = false → t.flags = s.flags
  system : t.msw = s.msw ∧ SameSegs s t ∧ SameTables s t ∧ SameHidden { s with ioLog := t.ioLog } t

/-! ### Control transfers -/

/-- The offset is within the limit of the current code segment, where that is checked (44 R515). -/
def InCode (s : State) (x : Word) : Prop := s.msw.pe = true → x.toNat ≤ s.cs.limit.toNat

/-- IP is at the next instruction, and no byte is fetched there exactly when this one ended at FFFFH (20 R114; DEDUCED,
log 40). -/
def Advanced (s t : State) : Prop := t.ip = s.nextIp ∧ (t.pastEnd = true ↔ 0xFFFF < s.ip.toNat + s.cur.len)

/-- IP is at `x` by a transfer of control, and the fetch goes on there (10 R46; DEDUCED, log 40). -/
def TransferredTo (t : State) (x : Word) : Prop := t.ip = x ∧ t.pastEnd = false

/-- `i` goes on with the next instruction and changes nothing else. -/
def GoesOn (i : Instr) (s : State) : Prop :=
  Ends i s fun t => Advanced s t ∧ WroteNothing s t ∧ t.flags = s.flags ∧ SameSystem s t

/-- `i` transfers control to `x` and changes nothing else. -/
def TransfersIp (i : Instr) (s : State) (x : Word) : Prop :=
  Ends i s fun t => TransferredTo t x ∧ WroteNothing s t ∧ t.flags = s.flags ∧ SameSystem s t

/-- `i` moves IP to `x` and changes nothing else. -/
def MovesIp (i : Instr) (s : State) (x : Word) : Prop :=
  Ends i s fun t => t.ip = x ∧ WroteNothing s t ∧ t.flags = s.flags ∧ SameSystem s t

/-- `i` jumps to `x`, or takes #GP(0) when `x` is beyond the limit of the code segment. -/
def JumpsTo (i : Instr) (s : State) (x : Word) : Prop :=
  (InCode s x → TransfersIp i s x) ∧ (¬InCode s x → exec i s = .next (s.raise (.gp 0)))

/-- `i` jumps to `x` when `c` holds, and otherwise goes on with the next instruction. -/
def JumpsIf (i : Instr) (s : State) (c : Prop) (x : Word) : Prop :=
  (c → JumpsTo i s x) ∧ (¬c → GoesOn i s)

/-- `i` decrements CX and jumps to `x` when the new CX is not 0 and `z` holds; on #GP(0) nothing has changed. -/
def LoopsIf (i : Instr) (s : State) (z : Prop) (x : Word) : Prop :=
  let ends := fun P : State → Prop => Ends i s fun t => t.reg .cx = s.reg .cx - 1 ∧ P t ∧ SameRegsBut s t [.cx] ∧
    SameMemory s t ∧ t.flags = s.flags ∧ SameSystem s t
  (s.reg .cx - 1 ≠ 0 ∧ z → (InCode s x → ends fun t => TransferredTo t x) ∧
    (¬InCode s x → exec i s = .next (s.raise (.gp 0)))) ∧
  (¬(s.reg .cx - 1 ≠ 0 ∧ z) → ends fun t => Advanced s t)

/-- `i` calls `x`: the return offset is pushed and IP is `x`; the stack is tested first, the target second. -/
def CallsNear (i : Instr) (s : State) (x : Word) : Prop :=
  (s.stackRoom 1 = true → InCode s x →
    Ends i s fun t => Pushed s t s.nextIp ∧ TransferredTo t x ∧ t.flags = s.flags ∧ SameSystem s t) ∧
  (s.stackRoom 1 = true → ¬InCode s x → exec i s = .next (s.raise (.gp 0))) ∧
  (s.stackRoom 1 = false → exec i s = .next (if s.msw.pe then s.raise (.ss 0) else s.enterShutdown))

/-- `i` returns near, releasing `imm` more bytes. -/
def ReturnsNear (i : Instr) (s : State) (imm : Word) : Prop :=
  s.check .ss (s.reg .sp) 2 false = .ok () →
    (InCode s (s.stackWord 0) → Ends i s fun t => TransferredTo t (s.stackWord 0) ∧ t.reg .sp = s.reg .sp + 2 + imm ∧
      SameRegsBut s t [.sp] ∧ SameMemory s t ∧ t.flags = s.flags ∧ SameSystem s t) ∧
    (¬InCode s (s.stackWord 0) → exec i s = .next (s.raise (.gp 0)))

/-- CS holds `sel` as Real Address Mode loads it and IP is `off`; the other segment registers, the tables, MSW and the
hidden state are the same (44 R516). -/
def FarReal (s t : State) (sel off : Word) : Prop :=
  t.cs.sel = sel ∧ t.cs.base.toNat = 16 * sel.toNat ∧ t.cs.limit = 0xFFFF ∧ t.cs.valid = true ∧ TransferredTo t off ∧
  t.ss = s.ss ∧ t.ds = s.ds ∧ t.es = s.es ∧ t.msw = s.msw ∧ SameTables s t

/-- CS holds the segment of `sel` at the level CPL and IP is `off`; the descriptor's Accessed bit is set in memory;
the rest of the system is the same (21 R193, 47 R641). Memory besides that bit is left to the statement. -/
def FarCode (s t : State) (sel off : Word) : Prop :=
  t.cs.sel = selWithRpl sel s.cpl ∧ t.cs.base = (s.desc sel).base ∧ t.cs.limit = (s.desc sel).limit ∧
  t.cs.access = (s.desc sel).access ||| 1 ∧ t.cs.valid = true ∧ TransferredTo t off ∧
  HoldsByte s t (s.cell (s.descAddr sel + 5)) ((s.desc sel).access ||| 1) ∧
  t.ss = s.ss ∧ t.ds = s.ds ∧ t.es = s.es ∧ t.msw = s.msw ∧ SameTables s t ∧ SameHidden s t

/-- The selector names a present code segment that a JMP or CALL may enter without a gate, and `off` is inside it
(47 R640, R641, R650). -/
structure EntersCode (s : State) (sel off : Word) : Prop where
  notNull : selNull sel = false
  inTable : s.inTable sel = true
  code : arCode (s.desc sel).access = true
  privilege : if arConforming (s.desc sel).access then (s.desc sel).dpl.toNat ≤ s.cpl.toNat
    else (selRpl sel).toNat ≤ s.cpl.toNat ∧ (s.desc sel).dpl = s.cpl
  present : (s.desc sel).present = true
  inside : off.toNat ≤ (s.desc sel).limit.toNat

/-- `i` is a far JMP to `sel:off`: the pointer is in the instruction, or in memory that can be read (44 R513, R514). -/
def JumpsFar (i : Instr) (s : State) (sel off : Word) : Prop :=
  i = .jmpCd off sel ∨ ∃ m, i = .jmpMd (.mem m) ∧ s.checkMem m 4 false = .ok () ∧
    s.memWord (.mem m) 2 = sel ∧ s.memWord (.mem m) 0 = off

/-- `i` is a far CALL to `sel:off` (44 R532, R533). -/
def CallsFar (i : Instr) (s : State) (sel off : Word) : Prop :=
  i = .callCd off sel ∨ ∃ m, i = .callEd (.mem m) ∧ s.checkMem m 4 false = .ok () ∧
    s.memWord (.mem m) 2 = sel ∧ s.memWord (.mem m) 0 = off

/-- `i` is a far RET that releases `imm` bytes (44 R542). -/
def ReturnsFar (i : Instr) (imm : Word) : Prop := i = .retFarDw imm ∨ i = .retFar ∧ imm = 0

/-- The cell of the access byte of the descriptor that `sel` names. -/
def State.accessCell (s : State) (sel : Word) : Nat := s.cell (s.descAddr sel + 5)

/-- The Accessed bit of the descriptor that `sel` names in `s` is set in memory (21 R166). -/
def MarkedAccessed (s t : State) (sel : Word) : Prop :=
  HoldsByte s t (s.accessCell sel) ((s.desc sel).access ||| 1)

/-- The cache of a segment register is that of the descriptor `d`, accessed (21 R190). -/
def CachedFrom (g : Seg) (d : Desc) : Prop :=
  g.base = d.base ∧ g.limit = d.limit ∧ g.access = d.access ||| 1 ∧ g.valid = true

/-- DS or ES holding `g` stays valid at the outer level `p` (21 R199): its selector names a descriptor of the current
tables, its segment is readable, and its privilege allows `p`, unless it is conforming code. -/
def ValidAtLevel (s : State) (g : Seg) (p : BitVec 2) : Prop :=
  selNull g.sel = false ∧ s.inTable g.sel = true ∧ arReadable g.access = true ∧
    (arConforming g.access = true ∨
      p.toNat ≤ (arDpl g.access).toNat ∧ (selRpl g.sel).toNat ≤ (arDpl g.access).toNat)

/-! ### Flags, input and output, system registers -/

/-- `i` sets FLAGS to `f` and changes nothing else. -/
def SetsFlags (i : Instr) (s : State) (f : Flags) : Prop :=
  Ends i s fun t => t.flags = f ∧ WroteNothing s t ∧ t.ip = s.nextIp ∧ SameSystem s t

/-- The state with more cycles in the history of the I/O space, latest first. -/
def State.withCycles (s : State) (l : List IoCycle) : State := { s with ioLog := l ++ s.ioLog }

/-- `i` reads the byte of port `p` into AL: one byte cycle. -/
def InputsByte (i : Instr) (s : State) (p : Word) : Prop :=
  Ends i s fun t => WroteEb s t (.reg .al) (Config.ioRead s.ioLog p) ∧ t.flags = s.flags ∧ t.ip = s.nextIp ∧
    SameSystem (s.withCycles [.readByte p]) t

/-- `i` reads a word into AX: in one cycle from an even port, in two, the lower port first, from an odd one. -/
def InputsWord (i : Instr) (s : State) (p : Word) : Prop :=
  (p.toNat % 2 = 0 → Ends i s fun t =>
    WroteEw s t (.reg .ax) (wordOf (Config.ioRead s.ioLog (p + 1)) (Config.ioRead s.ioLog p)) ∧ t.flags = s.flags ∧
      t.ip = s.nextIp ∧ SameSystem (s.withCycles [.readWord p]) t) ∧
  (p.toNat % 2 = 1 → Ends i s fun t =>
    WroteEw s t (.reg .ax) (wordOf (Config.ioRead (.readByte p :: s.ioLog) (p + 1)) (Config.ioRead s.ioLog p)) ∧
      t.flags = s.flags ∧ t.ip = s.nextIp ∧ SameSystem (s.withCycles [.readByte (p + 1), .readByte p]) t)

/-- `i` makes the I/O cycles `l` and changes nothing else. -/
def Outputs (i : Instr) (s : State) (l : List IoCycle) : Prop :=
  Ends i s fun t => WroteNothing s t ∧ t.flags = s.flags ∧ t.ip = s.nextIp ∧ SameSystem (s.withCycles l) t

/-- `i` writes AX to port `p`, in one cycle to an even port, in two to an odd one. -/
def OutputsWord (i : Instr) (s : State) (p : Word) : Prop :=
  (p.toNat % 2 = 0 → Outputs i s [.writeWord p (s.reg .ax)]) ∧
  (p.toNat % 2 = 1 → Outputs i s [.writeByte (p + 1) (s.reg .ax).hi, .writeByte p (s.reg .ax).lo])

/-- `i` stores the table register `g` at the operand `m`: limit, base, and one byte that is left open (93 U6). -/
def StoresTable (i : Instr) (s : State) (m : MemRef) (g : TableReg) : Prop :=
  let a := fun k : Word => s.linear (s.memSeg m) (s.ea m + k)
  Ends i s fun t => HoldsWord s t (a 0) g.limit ∧ HoldsWord s t (a 2) (g.base.setWidth 16) ∧
    HoldsByte s t (s.cell (a 4)) ((g.base >>> 16).setWidth 8) ∧
    SameMemoryBut s t (s.wordCells (a 0) ++ s.wordCells (a 2) ++ [s.cell (a 4), s.cell (a 5)]) ∧
    SameRegsBut s t [] ∧ t.flags = s.flags ∧ t.ip = s.nextIp ∧ SameSystem s t

/-- The table register held by the six bytes at the operand `m`. -/
def HeldTable (s : State) (m : MemRef) (g : TableReg) : Prop :=
  g.limit = s.memWord (.mem m) 0 ∧ g.base.toNat = (s.memWord (.mem m) 2).toNat + 65536 * (s.memWord (.mem m) 4).lo.toNat

/-- The level of privilege and the RPL let the descriptor be seen (48, section 4). -/
def SelVisible (s : State) (sel : Word) : Prop :=
  arConforming (s.desc sel).access = true ∨
    s.cpl.toNat ≤ (s.desc sel).dpl.toNat ∧ (selRpl sel).toNat ≤ (s.desc sel).dpl.toNat

/-- The selector names a descriptor. -/
def SelDefined (s : State) (sel : Word) : Prop := selNull sel = false ∧ s.inTable sel = true

/-- `t` is the end of a selector test that found `ok`: ZF says so; the Accessed bit of a segment descriptor that passed
is set, which is the spec's decision 92 D13 (log 31); registers outside `l` are the same. -/
def SelTested (s t : State) (ok : Prop) (sel : Word) (l : List Reg16) : Prop :=
  (∃ z, t.flags = { s.flags with zf := z } ∧ (z = true ↔ ok)) ∧
  (ok ∧ (s.desc sel).access.getLsbD 4 = true →
    HoldsByte s t (s.cell (s.descAddr sel + 5)) ((s.desc sel).access ||| 1) ∧
    SameMemoryBut s t [s.cell (s.descAddr sel + 5)]) ∧
  (¬(ok ∧ (s.desc sel).access.getLsbD 4 = true) → SameMemory s t) ∧
  SameRegsBut s t l ∧ t.ip = s.nextIp ∧ SameSystem s t

/-! ### Stack frames -/

/-- The cells of the `k` words below SS:SP. -/
def State.belowCells (s : State) (k : Nat) : List Nat :=
  (List.range k).flatMap fun i => s.wordCells (s.stackAddr (BitVec.ofNat 16 (2 * (i + 1))))

/-- The words of `l` lie below SS:SP, the first one highest, in every cell that is not in `x`. -/
def FrameHolds (s t : State) (l : List Word) (x : List Nat) : Prop :=
  ∀ i (h : i < l.length),
    (s.cell (s.stackAddr (BitVec.ofNat 16 (2 * (i + 1)))) ∉ x →
      HoldsByte s t (s.cell (s.stackAddr (BitVec.ofNat 16 (2 * (i + 1))))) l[i].lo) ∧
    (s.cell (s.stackAddr (BitVec.ofNat 16 (2 * (i + 1))) + 1) ∉ x →
      HoldsByte s t (s.cell (s.stackAddr (BitVec.ofNat 16 (2 * (i + 1))) + 1)) l[i].hi)

/-- The words of `l` were pushed: they lie below SS:SP, SP is at the last one, and only their cells and those of `x`
may have changed. -/
def FramePushed (s t : State) (l : List Word) (x : List Nat) : Prop :=
  FrameHolds s t l x ∧ SameMemoryBut s t (s.belowCells l.length ++ x) ∧
  t.reg .sp = s.reg .sp - BitVec.ofNat 16 (2 * l.length) ∧ SameRegsBut s t [.sp]

/-- The machine with its stack at the segment of `ss`, offset `sp`: the inner stack of a change of level. -/
def State.onStack (s : State) (ss sp : Word) : State :=
  { s with ss := (s.desc ss).toSeg ss, regs := s.regs.set .sp sp }

/-- The word `v` was stored at the physical address `a`, in every cell that is not in `x`. -/
def HoldsWordBut (s t : State) (a : Addr) (v : Word) (x : List Nat) : Prop :=
  (s.cell a ∉ x → HoldsByte s t (s.cell a) v.lo) ∧ (s.cell (a + 1) ∉ x → HoldsByte s t (s.cell (a + 1)) v.hi)

/-! ### Exceptions and interrupts -/

/-- Real Address Mode took vector `n` and saved `retIp`: FLAGS, CS and `retIp` pushed, IF and TF cleared, CS:IP from
the vector table (60 R780, R783, R785). -/
def TookReal (s t : State) (n : Byte) (retIp : Word) : Prop :=
  let a := s.idtr.base + BitVec.ofNat 24 (4 * n.toNat)
  FramePushed s t [s.flags.toWord, s.cs.sel, retIp] [] ∧ FarReal s t (t.readWord (a + 2)) (t.readWord a) ∧
  t.flags = { s.flags with ief := false, tf := false } ∧ SameHidden { s with run := .running } t

/-- Protected Mode can take vector `n` through its trap or interrupt gate without leaving the level: the gate and the
code segment pass their tests, there is room for `k` words, and the descriptor lies outside the frame (47 R665). -/
structure GateReady (s : State) (n : Byte) (k : Nat) : Prop where
  inIdt : 8 * n.toNat + 7 ≤ s.idtr.limit.toNat
  kind : arType (s.idtGate n).access = 6 ∨ arType (s.idtGate n).access = 7
  gatePresent : (s.idtGate n).present = true
  notNull : selNull (s.idtGate n).gateSel = false
  inTable : s.inTable (s.idtGate n).gateSel = true
  code : arCode (s.desc (s.idtGate n).gateSel).access = true
  present : (s.desc (s.idtGate n).gateSel).present = true
  level : if arConforming (s.desc (s.idtGate n).gateSel).access
    then (s.desc (s.idtGate n).gateSel).dpl.toNat ≤ s.cpl.toNat else (s.desc (s.idtGate n).gateSel).dpl = s.cpl
  room : s.stackRoom k = true
  inside : (s.idtGate n).gateOffset.toNat ≤ (s.desc (s.idtGate n).gateSel).limit.toNat

/-- Protected Mode took vector `n` through its gate without leaving the level, and saved `retIp` and the error code
(47 R665; 60 R785). -/
def TookGate (s t : State) (n : Byte) (retIp : Word) (err : Option Word) : Prop :=
  let g := s.idtGate n
  FramePushed s t ([s.flags.toWord, s.cs.sel, retIp] ++ err.toList) [s.cell (s.descAddr g.gateSel + 5)] ∧
  t.cs.sel = selWithRpl g.gateSel s.cpl ∧ t.cs.base = (s.desc g.gateSel).base ∧
  t.cs.limit = (s.desc g.gateSel).limit ∧ t.cs.access = (s.desc g.gateSel).access ||| 1 ∧ t.cs.valid = true ∧
  t.cpl = s.cpl ∧ TransferredTo t g.gateOffset ∧
  t.flags = { s.flags with
    tf := false, nt := false, ief := if arType g.access = 6 then false else s.flags.ief } ∧
  t.ss = s.ss ∧ t.ds = s.ds ∧ t.es = s.es ∧ t.msw = s.msw ∧ SameTables s t ∧ SameHidden { s with run := .running } t

/-- The selector names a present code segment that a return may enter at level `p`, and `off` is inside it
(47 R660, R670). -/
structure ReturnsTo (s : State) (sel off : Word) (p : BitVec 2) : Prop where
  notNull : selNull sel = false
  inTable : s.inTable sel = true
  code : arCode (s.desc sel).access = true
  level : if arConforming (s.desc sel).access then (s.desc sel).dpl.toNat ≤ p.toNat else (s.desc sel).dpl = p
  present : (s.desc sel).present = true
  inside : off.toNat ≤ (s.desc sel).limit.toNat

/-! ### Invalid encodings (30 R288) -/

/-- The rows of the opcode table that are #UD whatever follows them. -/
def udRows : List Instr :=
  [.ud83_1, .ud83_4, .ud83_6, .ud64, .ud65, .ud66, .ud67, .ud82, .ud8C_4, .ud8C_5, .ud8C_6, .ud8C_7, .ud8E_1, .ud8E_4,
    .ud8E_5, .ud8E_6, .ud8E_7, .udC0_6, .udC1_6, .udD0_6, .udD1_6, .udD2_6, .udD3_6, .udC6_1, .udC6_2, .udC6_3, .udC6_4,
    .udC6_5, .udC6_6, .udC6_7, .udC7_1, .udC7_2, .udC7_3, .udC7_4, .udC7_5, .udC7_6, .udC7_7, .udD6, .udF1, .udF6_1,
    .udF7_1, .udFE_2, .udFE_3, .udFE_4, .udFE_5, .udFE_6, .udFE_7, .ud0F00_6, .ud0F00_7, .ud0F01_5, .ud0F01_7]

/-- The rows that are #GP(0). -/
def gpRows : List Instr := [.gp8F_1, .gp8F_2, .gp8F_3, .gp8F_4, .gp8F_5, .gp8F_6, .gp8F_7, .gpFF_7]

/-- The forms that need a memory operand, given the word register `q`. -/
def regOfMemForms (r q : Reg16) : List Instr :=
  [.boundRwMd r (.reg q), .leaRwM r (.reg q), .popMw (.reg q), .lesRwEd r (.reg q), .ldsRwEd r (.reg q),
    .callEd (.reg q), .jmpMd (.reg q), .pushMw (.reg q), .sgdtM (.reg q), .sidtM (.reg q), .lgdtM (.reg q),
    .lidtM (.reg q)]

/-- The instructions that Real Address Mode does not recognise (30 R287). -/
def protectedOnly (r : Reg16) (e : Ew) : List Instr :=
  [.arplEwRw e r, .sldtEw e, .strEw e, .lldtEw e, .ltrEw e, .verrEw e, .verwEw e, .larRwEw r e, .lslRwEw r e]

/-! ### The machine -/

/-- The invariant of memory: its canonical form. -/
def Canonical (s : State) : Prop := Memory.wf s.mem = true

/-- A running machine at a boundary where nothing but the instruction will happen: RESET is inactive, no transfer of
the extension is due, no event is accepted. -/
structure Quiet (s : State) : Prop where
  noReset : s.env.reset = false
  running : s.run = .running
  noTransfer : s.extOp = none ∨ s.env.ext.pereq = 0
  noEvent : s.boundaryEvent = none

/-- Real Address Mode. -/
def InReal (s : State) : Prop := s.msw.pe = false

end Sys2Proof.Machine
end

