-- ==== Sys2Proof/Certificates/Slice0/Obligations.lean ====
section
/-!
DEFINITION. The statements for the provers: each says what the manual's rules promise of the machine. OBLIGATIONS.json
lists them with the rules they rest on. A hypothesis on a check (`s.checkEb e true = .ok ()`) says that the operand is
readable or writable as 20 R108-R116 require.
-/

open Sys2Proof Sys2Proof.Machine

/-! ### Arithmetic and logic -/

/-- 41 R380: `Add` and `Sub` of bytes and of words compute the result and the six flags, OF as the signed result that
does not fit. -/
def Obligations.AddAndSubFlagFunctions : Prop :=
  (∀ (a b : Byte) (c : Bool) (f : Flags),
    AddSays a b c f (addF a b c f).2 (addF a b c f).1 ∧ SubSays a b c f (subF a b c f).2 (subF a b c f).1) ∧
  (∀ (a b : Word) (c : Bool) (f : Flags),
    AddSays a b c f (addF a b c f).2 (addF a b c f).1 ∧ SubSays a b c f (subF a b c f).2 (subF a b c f).1)

/-- ADD and ADC complete in each of their nine forms: the sum goes to the first operand (ADC adds the old CF), the six
flags are those of the sum, nothing else changes. -/
def Obligations.AddAdcComplete : Prop :=
  ∀ s : State, Canonical s →
    (∀ e r, s.checkEb e true = .ok () →
      AddsEb (.addEbRb e r) s e (s.reg8 r) false ∧ AddsEb (.adcEbRb e r) s e (s.reg8 r) s.flags.cf) ∧
    (∀ e r, s.checkEw e true = .ok () →
      AddsEw (.addEwRw e r) s e (s.reg r) false ∧ AddsEw (.adcEwRw e r) s e (s.reg r) s.flags.cf) ∧
    (∀ r e, s.checkEb e false = .ok () →
      AddsEb (.addRbEb r e) s (.reg r) (s.getEb e) false ∧ AddsEb (.adcRbEb r e) s (.reg r) (s.getEb e) s.flags.cf) ∧
    (∀ r e, s.checkEw e false = .ok () →
      AddsEw (.addRwEw r e) s (.reg r) (s.getEw e) false ∧ AddsEw (.adcRwEw r e) s (.reg r) (s.getEw e) s.flags.cf) ∧
    (∀ b, AddsEb (.addAlDb b) s (.reg .al) b false ∧ AddsEb (.adcAlDb b) s (.reg .al) b s.flags.cf) ∧
    (∀ w, AddsEw (.addAxDw w) s (.reg .ax) w false ∧ AddsEw (.adcAxDw w) s (.reg .ax) w s.flags.cf) ∧
    (∀ e b, s.checkEb e true = .ok () →
      AddsEb (.addEbDb e b) s e b false ∧ AddsEb (.adcEbDb e b) s e b s.flags.cf) ∧
    (∀ e w, s.checkEw e true = .ok () →
      AddsEw (.addEwDw e w) s e w false ∧ AddsEw (.adcEwDw e w) s e w s.flags.cf) ∧
    (∀ e b, s.checkEw e true = .ok () →
      AddsEw (.addEwDb e b) s e (sext16 b) false ∧ AddsEw (.adcEwDb e b) s e (sext16 b) s.flags.cf)

/-- SUB and SBB complete in each of their nine forms. -/
def Obligations.SubSbbComplete : Prop :=
  ∀ s : State, Canonical s →
    (∀ e r, s.checkEb e true = .ok () →
      SubsEb (.subEbRb e r) s e (s.reg8 r) false ∧ SubsEb (.sbbEbRb e r) s e (s.reg8 r) s.flags.cf) ∧
    (∀ e r, s.checkEw e true = .ok () →
      SubsEw (.subEwRw e r) s e (s.reg r) false ∧ SubsEw (.sbbEwRw e r) s e (s.reg r) s.flags.cf) ∧
    (∀ r e, s.checkEb e false = .ok () →
      SubsEb (.subRbEb r e) s (.reg r) (s.getEb e) false ∧ SubsEb (.sbbRbEb r e) s (.reg r) (s.getEb e) s.flags.cf) ∧
    (∀ r e, s.checkEw e false = .ok () →
      SubsEw (.subRwEw r e) s (.reg r) (s.getEw e) false ∧ SubsEw (.sbbRwEw r e) s (.reg r) (s.getEw e) s.flags.cf) ∧
    (∀ b, SubsEb (.subAlDb b) s (.reg .al) b false ∧ SubsEb (.sbbAlDb b) s (.reg .al) b s.flags.cf) ∧
    (∀ w, SubsEw (.subAxDw w) s (.reg .ax) w false ∧ SubsEw (.sbbAxDw w) s (.reg .ax) w s.flags.cf) ∧
    (∀ e b, s.checkEb e true = .ok () →
      SubsEb (.subEbDb e b) s e b false ∧ SubsEb (.sbbEbDb e b) s e b s.flags.cf) ∧
    (∀ e w, s.checkEw e true = .ok () →
      SubsEw (.subEwDw e w) s e w false ∧ SubsEw (.sbbEwDw e w) s e w s.flags.cf) ∧
    (∀ e b, s.checkEw e true = .ok () →
      SubsEw (.subEwDb e b) s e (sext16 b) false ∧ SubsEw (.sbbEwDb e b) s e (sext16 b) s.flags.cf)

/-- CMP completes in each of its nine forms, on a readable operand: the flags of the difference, nothing stored. -/
def Obligations.CompareCompletes : Prop :=
  ∀ s : State,
    (∀ e r, s.checkEb e false = .ok () → Compares (.cmpEbRb e r) s (s.getEb e) (s.reg8 r)) ∧
    (∀ e r, s.checkEw e false = .ok () → Compares (.cmpEwRw e r) s (s.getEw e) (s.reg r)) ∧
    (∀ r e, s.checkEb e false = .ok () → Compares (.cmpRbEb r e) s (s.reg8 r) (s.getEb e)) ∧
    (∀ r e, s.checkEw e false = .ok () → Compares (.cmpRwEw r e) s (s.reg r) (s.getEw e)) ∧
    (∀ b, Compares (.cmpAlDb b) s (s.reg8 .al) b) ∧
    (∀ w, Compares (.cmpAxDw w) s (s.reg .ax) w) ∧
    (∀ e b, s.checkEb e false = .ok () → Compares (.cmpEbDb e b) s (s.getEb e) b) ∧
    (∀ e w, s.checkEw e false = .ok () → Compares (.cmpEwDw e w) s (s.getEw e) w) ∧
    (∀ e b, s.checkEw e false = .ok () → Compares (.cmpEwDb e b) s (s.getEw e) (sext16 b))

/-- INC, DEC and NEG complete: INC and DEC keep CF, NEG sets it unless the operand was 0. -/
def Obligations.IncDecNegComplete : Prop :=
  ∀ s : State, Canonical s →
    (∀ r, (∃ v, EndsEw (.incRw r) s (.reg r) v fun g =>
        ButCarry s.flags g fun k => AddSays (s.reg r) 1 false s.flags k v) ∧
      (∃ v, EndsEw (.decRw r) s (.reg r) v fun g =>
        ButCarry s.flags g fun k => SubSays (s.reg r) 1 false s.flags k v)) ∧
    (∀ e, s.checkEb e true = .ok () →
      (∃ v, EndsEb (.incEb e) s e v fun g => ButCarry s.flags g fun k => AddSays (s.getEb e) 1 false s.flags k v) ∧
      (∃ v, EndsEb (.decEb e) s e v fun g => ButCarry s.flags g fun k => SubSays (s.getEb e) 1 false s.flags k v) ∧
      (∃ v, EndsEb (.negEb e) s e v fun g =>
        SubSays 0 (s.getEb e) false s.flags g v ∧ (g.cf = false ↔ s.getEb e = 0))) ∧
    (∀ e, s.checkEw e true = .ok () →
      (∃ v, EndsEw (.incEw e) s e v fun g => ButCarry s.flags g fun k => AddSays (s.getEw e) 1 false s.flags k v) ∧
      (∃ v, EndsEw (.decEw e) s e v fun g => ButCarry s.flags g fun k => SubSays (s.getEw e) 1 false s.flags k v) ∧
      (∃ v, EndsEw (.negEw e) s e v fun g =>
        SubSays 0 (s.getEw e) false s.flags g v ∧ (g.cf = false ↔ s.getEw e = 0)))

/-- AND, OR and XOR complete in each of their eight forms, with the flags of 42 R440; AF is left open. -/
def Obligations.LogicCompletes : Prop :=
  ∀ s : State, Canonical s →
    (∀ e r, s.checkEb e true = .ok () →
      LogicEb (.andEbRb e r) s e (s.getEb e &&& s.reg8 r) ∧ LogicEb (.orEbRb e r) s e (s.getEb e ||| s.reg8 r) ∧
      LogicEb (.xorEbRb e r) s e (s.getEb e ^^^ s.reg8 r)) ∧
    (∀ e r, s.checkEw e true = .ok () →
      LogicEw (.andEwRw e r) s e (s.getEw e &&& s.reg r) ∧ LogicEw (.orEwRw e r) s e (s.getEw e ||| s.reg r) ∧
      LogicEw (.xorEwRw e r) s e (s.getEw e ^^^ s.reg r)) ∧
    (∀ r e, s.checkEb e false = .ok () →
      LogicEb (.andRbEb r e) s (.reg r) (s.reg8 r &&& s.getEb e) ∧
      LogicEb (.orRbEb r e) s (.reg r) (s.reg8 r ||| s.getEb e) ∧
      LogicEb (.xorRbEb r e) s (.reg r) (s.reg8 r ^^^ s.getEb e)) ∧
    (∀ r e, s.checkEw e false = .ok () →
      LogicEw (.andRwEw r e) s (.reg r) (s.reg r &&& s.getEw e) ∧
      LogicEw (.orRwEw r e) s (.reg r) (s.reg r ||| s.getEw e) ∧
      LogicEw (.xorRwEw r e) s (.reg r) (s.reg r ^^^ s.getEw e)) ∧
    (∀ b, LogicEb (.andAlDb b) s (.reg .al) (s.reg8 .al &&& b) ∧ LogicEb (.orAlDb b) s (.reg .al) (s.reg8 .al ||| b) ∧
      LogicEb (.xorAlDb b) s (.reg .al) (s.reg8 .al ^^^ b)) ∧
    (∀ w, LogicEw (.andAxDw w) s (.reg .ax) (s.reg .ax &&& w) ∧ LogicEw (.orAxDw w) s (.reg .ax) (s.reg .ax ||| w) ∧
      LogicEw (.xorAxDw w) s (.reg .ax) (s.reg .ax ^^^ w)) ∧
    (∀ e b, s.checkEb e true = .ok () →
      LogicEb (.andEbDb e b) s e (s.getEb e &&& b) ∧ LogicEb (.orEbDb e b) s e (s.getEb e ||| b) ∧
      LogicEb (.xorEbDb e b) s e (s.getEb e ^^^ b)) ∧
    (∀ e w, s.checkEw e true = .ok () →
      LogicEw (.andEwDw e w) s e (s.getEw e &&& w) ∧ LogicEw (.orEwDw e w) s e (s.getEw e ||| w) ∧
      LogicEw (.xorEwDw e w) s e (s.getEw e ^^^ w))

/-- TEST completes in each of its six forms and stores nothing; NOT inverts its operand and keeps every flag. -/
def Obligations.TestNotComplete : Prop :=
  ∀ s : State,
    (∀ e r, s.checkEb e false = .ok () → Tests (.testEbRb e r) s (s.getEb e &&& s.reg8 r)) ∧
    (∀ e r, s.checkEw e false = .ok () → Tests (.testEwRw e r) s (s.getEw e &&& s.reg r)) ∧
    (∀ b, Tests (.testAlDb b) s (s.reg8 .al &&& b)) ∧
    (∀ w, Tests (.testAxDw w) s (s.reg .ax &&& w)) ∧
    (∀ e b, s.checkEb e false = .ok () → Tests (.testEbDb e b) s (s.getEb e &&& b)) ∧
    (∀ e w, s.checkEw e false = .ok () → Tests (.testEwDw e w) s (s.getEw e &&& w)) ∧
    (Canonical s → ∀ e, s.checkEb e true = .ok () → MovesEb (.notEb e) s e (s.getEb e ^^^ 0xFF)) ∧
    (Canonical s → ∀ e, s.checkEw e true = .ok () → MovesEw (.notEw e) s e (s.getEw e ^^^ 0xFFFF))

/-! ### Data movement -/

/-- MOV completes in each of its forms, those that store a segment register's selector among them: the second operand
is copied to the first, no flag changes. -/
def Obligations.MovForms : Prop :=
  ∀ s : State, Canonical s →
    (∀ e r, s.checkEb e true = .ok () → MovesEb (.movEbRb e r) s e (s.reg8 r)) ∧
    (∀ r e, s.checkEb e false = .ok () → MovesEb (.movRbEb r e) s (.reg r) (s.getEb e)) ∧
    (∀ e b, s.checkEb e true = .ok () → MovesEb (.movEbDb e b) s e b) ∧
    (∀ r b, MovesEb (.movRbDb r b) s (.reg r) b) ∧
    (∀ o, s.checkEb (.mem (.direct o)) false = .ok () →
      MovesEb (.movAlXb o) s (.reg .al) (s.getEb (.mem (.direct o)))) ∧
    (∀ o, s.checkEb (.mem (.direct o)) true = .ok () → MovesEb (.movXbAl o) s (.mem (.direct o)) (s.reg8 .al)) ∧
    (∀ e r, s.checkEw e true = .ok () → MovesEw (.movEwRw e r) s e (s.reg r)) ∧
    (∀ r e, s.checkEw e false = .ok () → MovesEw (.movRwEw r e) s (.reg r) (s.getEw e)) ∧
    (∀ e w, s.checkEw e true = .ok () → MovesEw (.movEwDw e w) s e w) ∧
    (∀ r w, MovesEw (.movRwDw r w) s (.reg r) w) ∧
    (∀ o, s.checkEw (.mem (.direct o)) false = .ok () →
      MovesEw (.movAxXw o) s (.reg .ax) (s.getEw (.mem (.direct o)))) ∧
    (∀ o, s.checkEw (.mem (.direct o)) true = .ok () → MovesEw (.movXwAx o) s (.mem (.direct o)) (s.reg .ax)) ∧
    (∀ e, s.checkEw e true = .ok () →
      MovesEw (.movEwEs e) s e s.es.sel ∧ MovesEw (.movEwCs e) s e s.cs.sel ∧
      MovesEw (.movEwSs e) s e s.ss.sel ∧ MovesEw (.movEwDs e) s e s.ds.sel)

/-- PUSH, PUSHF and POP complete. The word pushed is as it was before the instruction, `PUSH SP` included; `POP SP`
leaves the word popped, which is the model's choice, log 26. -/
def Obligations.PushPopForms : Prop :=
  ∀ s : State, Canonical s →
    (s.checkPush = .ok () →
      PushesWord .pushEs s s.es.sel ∧ PushesWord .pushCs s s.cs.sel ∧
      PushesWord .pushSs s s.ss.sel ∧ PushesWord .pushDs s s.ds.sel ∧
      (∀ r, PushesWord (.pushRw r) s (s.reg r)) ∧
      (∀ m, s.checkMem m 2 false = .ok () → PushesWord (.pushMw (.mem m)) s (s.getEw (.mem m))) ∧
      (∀ w, PushesWord (.pushDw w) s w) ∧ (∀ b, PushesWord (.pushDb b) s (sext16 b)) ∧
      PushesWord .pushf s s.flags.toWord) ∧
    (s.checkPop = .ok () →
      (∀ r, Ends (.popRw r) s fun t =>
        t.reg r = s.stackWord 0 ∧ (r ≠ .sp → t.reg .sp = s.reg .sp + 2) ∧ SameRegsBut s t [r, .sp] ∧ SameMemory s t ∧
        t.flags = s.flags ∧ t.ip = s.nextIp ∧ SameSystem s t) ∧
      (∀ m, s.checkMem m 2 true = .ok () → Ends (.popMw (.mem m)) s fun t =>
        HoldsWord s t (s.memAddr m) (s.stackWord 0) ∧ SameMemoryBut s t (s.wordCells (s.memAddr m)) ∧
        t.reg .sp = s.reg .sp + 2 ∧ SameRegsBut s t [.sp] ∧
        t.flags = s.flags ∧ t.ip = s.nextIp ∧ SameSystem s t))

/-- MOV and POP to ES, SS, DS and LDS, LES complete when the selector passes its tests: the register's cache is loaded,
and what a load of SS does to interrupts is done. -/
def Obligations.SegmentLoads : Prop :=
  ∀ s : State, Canonical s →
    (∀ e, s.checkEw e false = .ok () →
      (s.checkSreg .es (s.getEw e) = .ok () →
        Ends (.movEsEw e) s fun t => SregLoaded s t .es (s.getEw e) ∧ SameRegsBut s t []) ∧
      (s.checkSreg .ss (s.getEw e) = .ok () →
        Ends (.movSsEw e) s fun t => SregLoaded s t .ss (s.getEw e) ∧ SameRegsBut s t []) ∧
      (s.checkSreg .ds (s.getEw e) = .ok () →
        Ends (.movDsEw e) s fun t => SregLoaded s t .ds (s.getEw e) ∧ SameRegsBut s t [])) ∧
    (s.checkPop = .ok () →
      (s.checkSreg .es (s.stackWord 0) = .ok () → Ends .popEs s fun t =>
        SregLoaded s t .es (s.stackWord 0) ∧ t.reg .sp = s.reg .sp + 2 ∧ SameRegsBut s t [.sp]) ∧
      (s.checkSreg .ss (s.stackWord 0) = .ok () → Ends .popSs s fun t =>
        SregLoaded s t .ss (s.stackWord 0) ∧ t.reg .sp = s.reg .sp + 2 ∧ SameRegsBut s t [.sp]) ∧
      (s.checkSreg .ds (s.stackWord 0) = .ok () → Ends .popDs s fun t =>
        SregLoaded s t .ds (s.stackWord 0) ∧ t.reg .sp = s.reg .sp + 2 ∧ SameRegsBut s t [.sp])) ∧
    (∀ r m, s.checkMem m 4 false = .ok () →
      (s.checkSreg .ds (s.memWord (.mem m) 2) = .ok () → Ends (.ldsRwEd r (.mem m)) s fun t =>
        SregLoaded s t .ds (s.memWord (.mem m) 2) ∧ t.reg r = s.memWord (.mem m) 0 ∧ SameRegsBut s t [r]) ∧
      (s.checkSreg .es (s.memWord (.mem m) 2) = .ok () → Ends (.lesRwEd r (.mem m)) s fun t =>
        SregLoaded s t .es (s.memWord (.mem m) 2) ∧ t.reg r = s.memWord (.mem m) 0 ∧ SameRegsBut s t [r]))

/-- The tests on a selector that MOV, POP, LDS and LES make: every selector passes in Real Address Mode; in Protected
Mode the first test that fails, in the rule's order, names the exception. -/
def Obligations.SelectorTests : Prop :=
  (∀ (s : State) r sel, s.msw.pe = false → s.checkSreg r sel = .ok ()) ∧
  (∀ (s : State) sel, s.msw.pe = true → s.checkSreg .ss sel =
    if selNull sel then .error (.gp 0)
    else if s.inTable sel = false ∨ selRpl sel ≠ s.cpl then .error (.gp (sel &&& 0xFFFC))
    else if arWritableData (s.desc sel).access = false ∨ (s.desc sel).dpl ≠ s.cpl then .error (.gp (sel &&& 0xFFFC))
    else if (s.desc sel).present = false then .error (.ss (sel &&& 0xFFFC))
    else .ok ()) ∧
  (∀ (s : State) r sel, s.msw.pe = true → r = .ds ∨ r = .es → s.checkSreg r sel =
    if selNull sel then .ok ()
    else if s.inTable sel = false ∨ arReadable (s.desc sel).access = false then .error (.gp (sel &&& 0xFFFC))
    else if arConforming (s.desc sel).access = false ∧
        ((s.desc sel).dpl.toNat < s.cpl.toNat ∨ (s.desc sel).dpl.toNat < (selRpl sel).toNat) then
      .error (.gp (sel &&& 0xFFFC))
    else if (s.desc sel).present = false then .error (.np (sel &&& 0xFFFC))
    else .ok ())

/-- XCHG completes in each form: the two operands are exchanged, no flag changes. -/
def Obligations.ExchangeForms : Prop :=
  ∀ s : State, Canonical s →
    (∀ q r, Ends (.xchgEbRb (.reg q) r) s fun t =>
      t.reg8 q = s.reg8 r ∧ t.reg8 r = s.reg8 q ∧ (∀ p, p ≠ q → p ≠ r → t.reg8 p = s.reg8 p) ∧
      SameRegsBut s t [.ax, .cx, .dx, .bx] ∧ SameMemory s t ∧ t.flags = s.flags ∧ t.ip = s.nextIp ∧ SameSystem s t) ∧
    (∀ m r, s.checkEb (.mem m) true = .ok () → Ends (.xchgEbRb (.mem m) r) s fun t =>
      HoldsByte s t (s.cell (s.memAddr m)) (s.reg8 r) ∧ SameMemoryBut s t [s.cell (s.memAddr m)] ∧
      t.reg8 r = s.getEb (.mem m) ∧ SameRegsBut8 s t r ∧ t.flags = s.flags ∧ t.ip = s.nextIp ∧ SameSystem s t) ∧
    (∀ q r, Ends (.xchgEwRw (.reg q) r) s fun t =>
      t.reg q = s.reg r ∧ t.reg r = s.reg q ∧ SameRegsBut s t [q, r] ∧ SameMemory s t ∧
      t.flags = s.flags ∧ t.ip = s.nextIp ∧ SameSystem s t) ∧
    (∀ m r, s.checkEw (.mem m) true = .ok () → Ends (.xchgEwRw (.mem m) r) s fun t =>
      HoldsWord s t (s.memAddr m) (s.reg r) ∧ SameMemoryBut s t (s.wordCells (s.memAddr m)) ∧
      t.reg r = s.getEw (.mem m) ∧ SameRegsBut s t [r] ∧ t.flags = s.flags ∧ t.ip = s.nextIp ∧ SameSystem s t) ∧
    (∀ r, Ends (.xchgAxRw r) s fun t =>
      t.reg .ax = s.reg r ∧ t.reg r = s.reg .ax ∧ SameRegsBut s t [.ax, r] ∧ SameMemory s t ∧
      t.flags = s.flags ∧ t.ip = s.nextIp ∧ SameSystem s t)

/-- LEA loads the effective address and reads no memory; XLATB loads AL from BX + AL; CBW and CWD extend the sign. -/
def Obligations.LeaXlatCbwCwd : Prop :=
  ∀ s : State, Canonical s →
    (∀ r m, MovesEw (.leaRwM r (.mem m)) s (.reg r) (s.ea m)) ∧
    (s.check (s.segOr .ds) (s.reg .bx + zext16 (s.reg8 .al)) 1 false = .ok () →
      MovesEb .xlatb s (.reg .al) (s.peek8 (s.segOr .ds) (s.reg .bx + zext16 (s.reg8 .al)))) ∧
    (∃ v : Word, MovesEw .cbw s (.reg .ax) v ∧ v.toInt = (s.reg8 .al).toInt) ∧
    (∃ v : Word, MovesEw .cwd s (.reg .dx) v ∧ (v ++ s.reg .ax).toInt = (s.reg .ax).toInt)

/-! ### Multiplication, division, decimal adjustment -/

/-- MUL and IMUL complete in each of their six forms: the product is exact in the wide forms and truncated to 16 bits in
the immediate ones; CF and OF say whether it fits. -/
def Obligations.MultiplyForms : Prop :=
  ∀ s : State,
    (∀ e, s.checkEb e false = .ok () →
      Multiplies (.mulEb e) s [.ax] ((s.reg8 .al).toNat * (s.getEb e).toNat < 2 ^ 8) (fun t =>
        (t.reg .ax).toNat = (s.reg8 .al).toNat * (s.getEb e).toNat) ∧
      Multiplies (.imulEb e) s [.ax] (FitsSigned 8 ((s.reg8 .al).toInt * (s.getEb e).toInt)) (fun t =>
        (t.reg .ax).toInt = (s.reg8 .al).toInt * (s.getEb e).toInt)) ∧
    (∀ e, s.checkEw e false = .ok () →
      Multiplies (.mulEw e) s [.dx, .ax] ((s.reg .ax).toNat * (s.getEw e).toNat < 2 ^ 16) (fun t =>
        (t.reg .dx ++ t.reg .ax).toNat = (s.reg .ax).toNat * (s.getEw e).toNat) ∧
      Multiplies (.imulEw e) s [.dx, .ax] (FitsSigned 16 ((s.reg .ax).toInt * (s.getEw e).toInt)) (fun t =>
        (t.reg .dx ++ t.reg .ax).toInt = (s.reg .ax).toInt * (s.getEw e).toInt) ∧
      (∀ r w, Multiplies (.imulRwEwDw r e w) s [r] (FitsSigned 16 ((s.getEw e).toInt * w.toInt)) (fun t =>
        t.reg r = BitVec.ofInt 16 ((s.getEw e).toInt * w.toInt))) ∧
      (∀ r b, Multiplies (.imulRwEwDb r e b) s [r] (FitsSigned 16 ((s.getEw e).toInt * b.toInt)) (fun t =>
        t.reg r = BitVec.ofInt 16 ((s.getEw e).toInt * b.toInt))))

/-- DIV and IDIV complete when the divisor is not 0 and the quotient fits, with quotient and remainder truncated toward 0;
otherwise they take interrupt 0 in the state before the instruction. -/
def Obligations.DivideForms : Prop :=
  ∀ s : State,
    (∀ e, s.checkEb e false = .ok () → (s.getEb e).toNat ≠ 0 →
      ((s.reg .ax).toNat / (s.getEb e).toNat < 2 ^ 8 → Divides (.divEb e) s [.ax] fun t =>
        (t.reg8 .al).toNat = (s.reg .ax).toNat / (s.getEb e).toNat ∧
        (t.reg8 .ah).toNat = (s.reg .ax).toNat % (s.getEb e).toNat) ∧
      (FitsSigned 8 ((s.reg .ax).toInt.tdiv (s.getEb e).toInt) → Divides (.idivEb e) s [.ax] fun t =>
        (t.reg8 .al).toInt = (s.reg .ax).toInt.tdiv (s.getEb e).toInt ∧
        (t.reg8 .ah).toInt = (s.reg .ax).toInt.tmod (s.getEb e).toInt)) ∧
    (∀ e, s.checkEw e false = .ok () → (s.getEw e).toNat ≠ 0 →
      ((s.reg .dx ++ s.reg .ax).toNat / (s.getEw e).toNat < 2 ^ 16 → Divides (.divEw e) s [.dx, .ax] fun t =>
        (t.reg .ax).toNat = (s.reg .dx ++ s.reg .ax).toNat / (s.getEw e).toNat ∧
        (t.reg .dx).toNat = (s.reg .dx ++ s.reg .ax).toNat % (s.getEw e).toNat) ∧
      (FitsSigned 16 ((s.reg .dx ++ s.reg .ax).toInt.tdiv (s.getEw e).toInt) →
        Divides (.idivEw e) s [.dx, .ax] fun t =>
          (t.reg .ax).toInt = (s.reg .dx ++ s.reg .ax).toInt.tdiv (s.getEw e).toInt ∧
          (t.reg .dx).toInt = (s.reg .dx ++ s.reg .ax).toInt.tmod (s.getEw e).toInt)) ∧
    (∀ e, s.checkEb e false = .ok () →
      ((s.getEb e).toNat = 0 ∨ 2 ^ 8 ≤ (s.reg .ax).toNat / (s.getEb e).toNat →
        exec (.divEb e) s = .next (s.raise .de)) ∧
      ((s.getEb e).toNat = 0 ∨ ¬FitsSigned 8 ((s.reg .ax).toInt.tdiv (s.getEb e).toInt) →
        exec (.idivEb e) s = .next (s.raise .de))) ∧
    (∀ e, s.checkEw e false = .ok () →
      ((s.getEw e).toNat = 0 ∨ 2 ^ 16 ≤ (s.reg .dx ++ s.reg .ax).toNat / (s.getEw e).toNat →
        exec (.divEw e) s = .next (s.raise .de)) ∧
      ((s.getEw e).toNat = 0 ∨ ¬FitsSigned 16 ((s.reg .dx ++ s.reg .ax).toInt.tdiv (s.getEw e).toInt) →
        exec (.idivEw e) s = .next (s.raise .de)))

/-- 41 R400, R401: DAA and DAS complete as their two-step definition says; OF is undefined. -/
def Obligations.DecimalAdjustPacked : Prop :=
  ∀ s : State,
    let a := (s.reg8 .al).toNat
    let low := 9 < a % 16 ∨ s.flags.af = true
    encode .daa = [0x27] ∧ encode .das = [0x2F] ∧
    (∃ v, EndsEb .daa s (.reg .al) v fun g =>
      ∃ a1, (low → a1 = (a + 6) % 256) ∧ (¬low → a1 = a) ∧
        (0x9F < a1 ∨ s.flags.cf = true → v.toNat = (a1 + 0x60) % 256) ∧
        (¬(0x9F < a1 ∨ s.flags.cf = true) → v.toNat = a1) ∧
        (g.af = true ↔ low) ∧ (g.cf = true ↔ 0x9F < a1 ∨ s.flags.cf = true) ∧
        ResultFlags g v ∧ SameControlFlags s.flags g) ∧
    (∃ v, EndsEb .das s (.reg .al) v fun g =>
      ∃ a1, (low → a1 = (a + 250) % 256) ∧ (¬low → a1 = a) ∧
        (0x9F < a1 ∨ s.flags.cf = true → v.toNat = (a1 + 160) % 256) ∧
        (¬(0x9F < a1 ∨ s.flags.cf = true) → v.toNat = a1) ∧
        (g.af = true ↔ low) ∧ (g.cf = true ↔ 0x9F < a1 ∨ s.flags.cf = true) ∧
        ResultFlags g v ∧ SameControlFlags s.flags g)

/-- AAA, AAS, AAM and AAD complete. AAA and AAS write AF and CF; AAM and AAD set SF, ZF, PF from the new AL, which is
the spec's decision 92 D22 (log 34). -/
def Obligations.DecimalAdjustUnpacked : Prop :=
  ∀ s : State,
    let al := (s.reg8 .al).toNat
    let ah := (s.reg8 .ah).toNat
    let low := 9 < al % 16 ∨ s.flags.af = true
    (∃ v, EndsEw .aaa s (.reg .ax) v fun g =>
      (low → v.lo.toNat = (al + 6) % 16 ∧ v.hi.toNat = (ah + 1) % 256) ∧
      (¬low → v.lo.toNat = al % 16 ∧ v.hi.toNat = ah) ∧
      (g.af = true ↔ low) ∧ (g.cf = true ↔ low) ∧ SameControlFlags s.flags g) ∧
    (∃ v, EndsEw .aas s (.reg .ax) v fun g =>
      (low → v.lo.toNat = (al + 250) % 16 ∧ v.hi.toNat = (ah + 255) % 256) ∧
      (¬low → v.lo.toNat = al % 16 ∧ v.hi.toNat = ah) ∧
      (g.af = true ↔ low) ∧ (g.cf = true ↔ low) ∧ SameControlFlags s.flags g) ∧
    (∃ v, EndsEw .aam s (.reg .ax) v fun g =>
      v.hi.toNat = al / 10 ∧ v.lo.toNat = al % 10 ∧ ResultFlags g v.lo ∧ SameControlFlags s.flags g) ∧
    (∃ v, EndsEw .aad s (.reg .ax) v fun g =>
      v.hi = 0 ∧ v.lo.toNat = (al + 10 * ah) % 256 ∧ ResultFlags g v.lo ∧ SameControlFlags s.flags g)

/-! ### Shifts and rotates -/

/-- All 42 shifts and rotates complete: by 1, by the low five bits of CL, by the low five bits of the immediate. That a
count of 0 changes no flag, and that OF is defined for a count of 1 from CL or the immediate too, is the spec's decision
92 D23 (log 34). -/
def Obligations.ShiftRotateForms : Prop :=
  ∀ (s : State) (k : ShiftKind), Canonical s →
    (∀ e, s.checkEb e true = .ok () →
      ShiftsEb (k.byteOne e) s k 1 e ∧ ShiftsEb (k.byteCl e) s k ((s.reg8 .cl).toNat % 32) e ∧
      ∀ b, ShiftsEb (k.byteImm e b) s k (b.toNat % 32) e) ∧
    (∀ e, s.checkEw e true = .ok () →
      ShiftsEw (k.wordOne e) s k 1 e ∧ ShiftsEw (k.wordCl e) s k ((s.reg8 .cl).toNat % 32) e ∧
      ∀ b, ShiftsEw (k.wordImm e b) s k (b.toNat % 32) e)

/-- The steps add up: a left shift by `c` multiplies by 2^c, SHR divides the unsigned value and SAR the signed value by
2^c, rounding down, and CF is the last bit shifted out; ROL and ROR rotate the operand, RCL and RCR rotate CF and the
operand together. -/
def Obligations.ShiftStepsAddUp : Prop :=
  ∀ (n : Nat) (x : BitVec n) (b : Bool) (c : Nat), 0 < n → 0 < c →
    Nat.repeat salStep c (x, b) = (x <<< c, (x <<< (c - 1)).msb) ∧
    Nat.repeat shrStep c (x, b) = (x >>> c, (x >>> (c - 1)).getLsbD 0) ∧
    Nat.repeat sarStep c (x, b) = (x.sshiftRight c, (x.sshiftRight (c - 1)).getLsbD 0) ∧
    (x.sshiftRight c).toInt = x.toInt / 2 ^ c ∧
    Nat.repeat rolStep c (x, b) = (x.rotateLeft c, (x.rotateLeft c).getLsbD 0) ∧
    Nat.repeat rorStep c (x, b) = (x.rotateRight c, (x.rotateRight c).msb) ∧
    (BitVec.cons (Nat.repeat rclStep c (x, b)).2 (Nat.repeat rclStep c (x, b)).1 = (BitVec.cons b x).rotateLeft c) ∧
    (BitVec.cons (Nat.repeat rcrStep c (x, b)).2 (Nat.repeat rcrStep c (x, b)).1 = (BitVec.cons b x).rotateRight c)

/-! ### Strings -/

/-- The fourteen string instructions complete when no repeat prefix stands before them: one primitive, CX kept. -/
def Obligations.StringPrimitives : Prop :=
  ∀ (s : State) (op : StrOp) (wide : Bool), Canonical s → s.cur.rep = none → StrReady s op wide →
    Ends (op.plain wide) s fun t => StrEffect s t op wide ∧ t.reg .cx = s.reg .cx ∧ t.ip = s.nextIp

/-- A repeated string instruction with CX not 0 does one iteration: the primitive, then CX is decremented, then the ZF
test of a comparison; IP moves on only when the loop ends. With CX = 0 it does nothing but move on, whatever SI and DI
point at. One iteration is one step: the spec's decision 92 D24, log 27. F2 before a primitive that does not compare acts
as F3: its decision 92 D19, log 34. -/
def Obligations.RepeatedStrings : Prop :=
  ∀ (s : State) (op : StrOp) (wide : Bool) (i : Instr) (r : Rep), Repeats s op wide i r →
    (Canonical s → s.reg .cx ≠ 0 → StrReady s op wide →
      Ends i s fun t => StrEffect s t op wide ∧ t.reg .cx = s.reg .cx - 1 ∧
        let ends := t.reg .cx = 0 ∨
          (op.compares = true ∧ (r = .repe ∧ t.flags.zf = false ∨ r = .repne ∧ t.flags.zf = true))
        (ends → t.ip = s.nextIp) ∧ (¬ends → t.ip = s.ip)) ∧
    (s.reg .cx = 0 → (op.isIo = true → s.untrusted = false) → MovesIp i s s.nextIp)

/-! ### Control transfers -/

/-- The sixteen conditional jumps, JCXZ and the three loops complete: each jumps exactly when its condition holds;
LOOP, LOOPE and LOOPNE decrement CX and jump while it is not 0 and ZF is as asked. What becomes of the mark `pastEnd`
is DEDUCED, log 40. -/
def Obligations.JumpsAndLoops : Prop :=
  ∀ (s : State) (b : Byte),
    let x := s.nextIp + sext16 b
    let f := s.flags
    JumpsIf (.joCb b) s (f.of = true) x ∧ JumpsIf (.jnoCb b) s (f.of = false) x ∧
    JumpsIf (.jbCb b) s (f.cf = true) x ∧ JumpsIf (.jaeCb b) s (f.cf = false) x ∧
    JumpsIf (.jeCb b) s (f.zf = true) x ∧ JumpsIf (.jneCb b) s (f.zf = false) x ∧
    JumpsIf (.jbeCb b) s (f.cf = true ∨ f.zf = true) x ∧ JumpsIf (.jaCb b) s (f.cf = false ∧ f.zf = false) x ∧
    JumpsIf (.jsCb b) s (f.sf = true) x ∧ JumpsIf (.jnsCb b) s (f.sf = false) x ∧
    JumpsIf (.jpCb b) s (f.pf = true) x ∧ JumpsIf (.jnpCb b) s (f.pf = false) x ∧
    JumpsIf (.jlCb b) s (f.sf ≠ f.of) x ∧ JumpsIf (.jgeCb b) s (f.sf = f.of) x ∧
    JumpsIf (.jleCb b) s (f.zf = true ∨ f.sf ≠ f.of) x ∧ JumpsIf (.jgCb b) s (f.zf = false ∧ f.sf = f.of) x ∧
    JumpsIf (.jcxzCb b) s (s.reg .cx = 0) x ∧
    LoopsIf (.loopCb b) s True x ∧
    LoopsIf (.loopeCb b) s (s.flags.zf = true) x ∧
    LoopsIf (.loopneCb b) s (s.flags.zf = false) x

/-- After `CMP a,b` the conditions of JB, JBE, JE and JL, JLE compare the operands, unsigned and signed. -/
def Obligations.ConditionsAfterCompare : Prop :=
  ∀ (n : Nat) (a b : BitVec n) (f : Flags), 0 < n →
    let g := (subF a b false f).2
    (g.cond 2 = true ↔ a.toNat < b.toNat) ∧ (g.cond 6 = true ↔ a.toNat ≤ b.toNat) ∧ (g.cond 4 = true ↔ a = b) ∧
    (g.cond 12 = true ↔ a.toInt < b.toInt) ∧ (g.cond 14 = true ↔ a.toInt ≤ b.toInt) ∧
    (∀ c : BitVec 4, c.getLsbD 0 = false → g.cond (c ||| 1) = !g.cond c)

/-- JMP, CALL and RET complete in each of their near forms. That a CALL tests the stack before its target, and changes
nothing where either fails, is the spec's decision 92 D26 (log 34). A transfer of control ending the mark `pastEnd` is
DEDUCED, log 40. -/
def Obligations.NearTransfers : Prop :=
  ∀ s : State, Canonical s →
    (∀ b, JumpsTo (.jmpCb b) s (s.nextIp + sext16 b)) ∧ (∀ w, JumpsTo (.jmpCw w) s (s.nextIp + w)) ∧
    (∀ e, s.checkEw e false = .ok () → JumpsTo (.jmpEw e) s (s.getEw e)) ∧
    (∀ w, CallsNear (.callCw w) s (s.nextIp + w)) ∧
    (∀ e, s.checkEw e false = .ok () → CallsNear (.callEw e) s (s.getEw e)) ∧
    ReturnsNear .retNear s 0 ∧ (∀ w, ReturnsNear (.retNearDw w) s w)

/-- A near RET undoes a near CALL: IP is back after the CALL, SP and every other register are as before it. A transfer
of control ending the mark `pastEnd` is DEDUCED, log 40. -/
def Obligations.CallThenReturn : Prop :=
  ∀ (s t : State) (w : Word), Canonical s → exec (.callCw w) s = .next t → s.stackRoom 1 = true →
    InCode s (s.nextIp + w) → InCode s s.nextIp → s.segRights .ss false = true →
    s.isRom (s.cell (s.stackAddr 2)) = false → s.isRom (s.cell (s.stackAddr 2 + 1)) = false →
    Ends .retNear t fun u => TransferredTo u s.nextIp ∧ u.regs = s.regs ∧ u.flags = s.flags ∧ SameSystem s u

/-- The far transfers complete in Real Address Mode: JMP and CALL with the pointer in the instruction or in memory, and
RET; CS is loaded as sixteen times the selector. A transfer of control ending the mark `pastEnd` is DEDUCED, log 40. -/
def Obligations.FarTransfersReal : Prop :=
  ∀ s : State, Canonical s → InReal s →
    let jumps := fun i (sel off : Word) => Ends i s fun t =>
      FarReal s t sel off ∧ WroteNothing s t ∧ t.flags = s.flags ∧ SameHidden s t
    let calls := fun i (sel off : Word) => s.stackRoom 2 = true → Ends i s fun t =>
      FarReal s t sel off ∧ t.reg .sp = s.reg .sp - 4 ∧ SameRegsBut s t [.sp] ∧
      HoldsWord s t (s.stackAddr 2) s.cs.sel ∧ HoldsWord s t (s.stackAddr 4) s.nextIp ∧
      SameMemoryBut s t (s.wordCells (s.stackAddr 2) ++ s.wordCells (s.stackAddr 4)) ∧
      t.flags = s.flags ∧ SameHidden s t
    let returns := fun i (imm : Word) => s.checkFrame 2 = .ok () → Ends i s fun t =>
      FarReal s t (s.stackWord 2) (s.stackWord 0) ∧ t.reg .sp = s.reg .sp + (4 + imm) ∧ SameRegsBut s t [.sp] ∧
      SameMemory s t ∧ t.flags = s.flags ∧ SameHidden s t
    (∀ off sel, jumps (.jmpCd off sel) sel off ∧ calls (.callCd off sel) sel off) ∧
    (∀ m, s.checkMem m 4 false = .ok () →
      jumps (.jmpMd (.mem m)) (s.memWord (.mem m) 2) (s.memWord (.mem m) 0) ∧
      calls (.callEd (.mem m)) (s.memWord (.mem m) 2) (s.memWord (.mem m) 0)) ∧
    returns .retFar 0 ∧ (∀ w, returns (.retFarDw w) w)

/-- A Protected Mode far JMP or CALL to a code segment, with the pointer in the instruction or in memory, enters it at
the same level: CPL stays, the descriptor becomes accessed; a CALL pushes CS, then the return offset. A transfer of
control ending the mark `pastEnd` is DEDUCED, log 40. -/
def Obligations.FarToCodeSegment : Prop :=
  ∀ (s : State) (i : Instr) (sel off : Word), Canonical s → s.msw.pe = true → EntersCode s sel off →
    (JumpsFar i s sel off → Ends i s fun t => FarCode s t sel off ∧ SameRegsBut s t [] ∧
      SameMemoryBut s t [s.accessCell sel] ∧ t.flags = s.flags ∧ t.cpl = s.cpl) ∧
    (CallsFar i s sel off → s.stackRoom 2 = true → Ends i s fun t => FarCode s t sel off ∧
      t.reg .sp = s.reg .sp - 4 ∧ SameRegsBut s t [.sp] ∧
      SameMemoryBut s t (s.accessCell sel :: s.wordCells (s.stackAddr 2) ++ s.wordCells (s.stackAddr 4)) ∧
      HoldsWordBut s t (s.stackAddr 2) s.cs.sel [s.accessCell sel] ∧
      HoldsWordBut s t (s.stackAddr 4) s.nextIp [s.accessCell sel] ∧
      t.flags = s.flags ∧ t.cpl = s.cpl)

/-! ### Flag and processor control -/

/-- The flag instructions complete: CLC, STC, CMC, CLD, STD and NOP at any level, CLI and STI where the trusted test
passes; STI holds off INTR for one instruction, which where IF was set already is the spec's decision 92 D27
(log 34); LAHF and SAHF move the low byte of FLAGS. -/
def Obligations.FlagInstructions : Prop :=
  ∀ s : State,
    SetsFlags .clc s { s.flags with cf := false } ∧ SetsFlags .stc s { s.flags with cf := true } ∧
    SetsFlags .cmc s { s.flags with cf := !s.flags.cf } ∧ SetsFlags .cld s { s.flags with df := false } ∧
    SetsFlags .std s { s.flags with df := true } ∧ SetsFlags .nop s s.flags ∧
    (s.untrusted = false → SetsFlags .cli s { s.flags with ief := false } ∧
      Ends .sti s fun t => t.flags = { s.flags with ief := true } ∧ WroteNothing s t ∧ t.ip = s.nextIp ∧
        SameSystem (s.inhibit .sti) t) ∧
    (∃ v : Byte, MovesEb .lahf s (.reg .ah) v ∧ v.getLsbD 7 = s.flags.sf ∧ v.getLsbD 6 = s.flags.zf ∧
      v.getLsbD 4 = s.flags.af ∧ v.getLsbD 2 = s.flags.pf ∧ v.getLsbD 0 = s.flags.cf) ∧
    (let v := s.reg8 .ah
     SetsFlags .sahf s { s.flags with
       sf := v.getLsbD 7, zf := v.getLsbD 6, af := v.getLsbD 4, pf := v.getLsbD 2, cf := v.getLsbD 0 })

/-- POPF completes. IOPL is loaded at level 0 of Protected Mode only, IF only where CPL ≤ IOPL; Real Address Mode keeps
IOPL and NT. -/
def Obligations.PopfLoadsFlags : Prop :=
  ∀ s : State, s.check .ss (s.reg .sp) 2 false = .ok () →
    let w := s.stackWord 0
    Ends .popf s fun t =>
      t.flags.cf = w.getLsbD 0 ∧ t.flags.pf = w.getLsbD 2 ∧ t.flags.af = w.getLsbD 4 ∧ t.flags.zf = w.getLsbD 6 ∧
      t.flags.sf = w.getLsbD 7 ∧ t.flags.tf = w.getLsbD 8 ∧ t.flags.df = w.getLsbD 10 ∧ t.flags.of = w.getLsbD 11 ∧
      (s.msw.pe = false → t.flags.ief = w.getLsbD 9 ∧ t.flags.iopl = s.flags.iopl ∧ t.flags.nt = s.flags.nt) ∧
      (s.msw.pe = true → t.flags.nt = w.getLsbD 14 ∧
        t.flags.iopl = (if s.cpl = 0 then w.extractLsb' 12 2 else s.flags.iopl) ∧
        t.flags.ief = (if s.cpl.toNat ≤ s.flags.iopl.toNat then w.getLsbD 9 else s.flags.ief)) ∧
      t.reg .sp = s.reg .sp + 2 ∧ SameRegsBut s t [.sp] ∧ SameMemory s t ∧ t.ip = s.nextIp ∧ SameSystem s t

/-- The trusted instructions take #GP(0) where CPL > IOPL in Protected Mode, in each of their forms, before anything
else happens; a LOCK prefix on an instruction within the length limit that is not invalid does the same. That INS and
OUTS are tested even with CX = 0, and LOCK before the instruction's own checks, is the spec's decision 92 D17
(log 11). -/
def Obligations.TrustedInstructions : Prop :=
  ∀ s : State, s.msw.pe = true → s.flags.iopl.toNat < s.cpl.toNat →
    (∀ i ∈ [Instr.cli, .sti, .inAlDx, .inAxDx, .outDxAl, .outDxAx], exec i s = .next (s.raise (.gp 0))) ∧
    (∀ b, ∀ i ∈ [Instr.inAlDb b, .inAxDb b, .outDbAl b, .outDbAx b], exec i s = .next (s.raise (.gp 0))) ∧
    (∀ op wide, (op = .ins ∨ op = .outs) →
      exec (StrOp.plain op wide) s = .next (s.raise (.gp 0)) ∧
      ∀ i r, Repeats s op wide i r → exec i s = .next (s.raise (.gp 0))) ∧
    (∀ i, s.cur.lock = true → s.cur.len ≤ 10 → invalidForm true i = false → runMain i s = .next (s.raise (.gp 0)))

/-- The privileged instructions take #GP(0) where CPL is not 0 in Protected Mode, before any operand is read. -/
def Obligations.PrivilegedInstructions : Prop :=
  ∀ s : State, s.msw.pe = true → s.cpl ≠ 0 →
    exec .hlt s = .next (s.raise (.gp 0)) ∧ exec .clts s = .next (s.raise (.gp 0)) ∧
    (∀ e, exec (.lmswEw e) s = .next (s.raise (.gp 0)) ∧ exec (.lldtEw e) s = .next (s.raise (.gp 0)) ∧
      exec (.ltrEw e) s = .next (s.raise (.gp 0))) ∧
    (∀ m, exec (.lgdtM (.mem m)) s = .next (s.raise (.gp 0)) ∧ exec (.lidtM (.mem m)) s = .next (s.raise (.gp 0)))

/-- IN and OUT complete in each of their eight forms where the trusted test passes. That a word is one cycle of the I/O
history at an even port and two at an odd one, the lower port first, is the model's choice, log 8; that the second byte
at port FFFFH is at port 0000H is the spec's decision 92 D10 (log 28). -/
def Obligations.InputOutput : Prop :=
  ∀ s : State, s.untrusted = false →
    (∀ b, InputsByte (.inAlDb b) s (zext16 b) ∧ InputsWord (.inAxDb b) s (zext16 b) ∧
      Outputs (.outDbAl b) s [.writeByte (zext16 b) (s.reg8 .al)] ∧ OutputsWord (.outDbAx b) s (zext16 b)) ∧
    InputsByte .inAlDx s (s.reg .dx) ∧ InputsWord .inAxDx s (s.reg .dx) ∧
    Outputs .outDxAl s [.writeByte (s.reg .dx) (s.reg8 .al)] ∧ OutputsWord .outDxAx s (s.reg .dx)

/-- HLT, WAIT and ESC complete. WAIT waits at its own offset while BUSY is active; WAIT and ESC take exception 7 as MP,
EM and TS say, and 16 when ERROR is active, an ESC only if its opcode tests the pins; otherwise an ESC goes on and is
handed to the extension, if there is one: the instruction with its register or address form, CS:IP, and the selector,
offset and address of a memory operand, which is remembered too. After an overrun the extension stays busy waiting for
data: WAIT waits, and no ESC but FNINIT begins, until FNINIT ends that; no event comes inside the wait of an ESC. BUSY
is a number of samples, all taken by the one step of an ESC, and the words still requested for the operand before are
moved in that step: the model's choices, logs 19 and 21; the hand-over as one entry of the I/O history, and what that
entry holds, log 20. How an ESC waits for the extension is DEDUCED, log 41. That WAIT takes BUSY before ERROR is the
spec's decision 92 D28 (log 19). -/
def Obligations.HaltWaitEscape : Prop :=
  ∀ s : State,
    let x := s.env.ext
    (s.unprivileged = false → Ends .hlt s fun t =>
      t.run = .halted ∧ WroteNothing s t ∧ t.flags = s.flags ∧ t.ip = s.nextIp ∧
        SameSystem { s with run := .halted } t) ∧
    (s.msw.mp = true → s.msw.ts = true → exec .wait s = .next (s.raise .nm)) ∧
    (s.msw.mp = false ∨ s.msw.ts = false →
      (x.busyFor = 0 → x.held = false → s.msw.em = true ∨ x.error = false → MovesIp .wait s s.nextIp) ∧
      (x.busyFor = 0 → x.held = false → s.msw.em = false → x.error = true → exec .wait s = .next (s.raise .mf)) ∧
      (x.busyFor ≠ 0 ∨ x.held = true → Ends .wait s fun t =>
        t.ip = s.ip ∧ t.waiting = .wait ∧ t.env.ext = { x with busyFor := x.busyFor - 1 } ∧ WroteNothing s t ∧
        t.flags = s.flags ∧ SameSystem { s with waiting := .wait, env := { s.env with ext := t.env.ext } } t)) ∧
    (∀ op e, s.msw.em = true ∨ s.msw.ts = true → exec (.esc op e) s = .next (s.raise .nm)) ∧
    (∀ op e, s.msw.em = false → s.msw.ts = false → s.checkEsc op e = .ok () →
      let fninit : Prop := (op, e) ∈ x.fninit
      let untested : Prop := op ∈ x.noErrorTest ∨ fninit
      let pins := fun (held : Bool) (t : State) =>
        (untested → t.env.ext = { x with held := held }) ∧
        (¬untested → t.env.ext = { x with busyFor := 0, held := held })
      let handed := fun (held : Bool) => Ends (.esc op e) s fun t =>
        WroteNothing s t ∧ t.flags = s.flags ∧ t.ip = s.nextIp ∧ pins held t ∧
        (∀ r, e = .reg r → t.extOp = none) ∧
        (∀ m, e = .mem m → t.extOp = some { seg := s.seg (s.memSeg m), off := (s.ea m).toNat, op := op }) ∧
        (∃ c : EscCall, c.op = op ∧ c.e = e ∧ c.cs = s.cs.sel ∧ c.ip = s.ip ∧
          (∀ r, e = .reg r → c.operand = none) ∧
          (∀ m, e = .mem m → ∃ o, c.operand = some o ∧ o.sel = (s.seg (s.memSeg m)).sel ∧ o.off = s.ea m ∧
            o.addr = s.memAddr m) ∧
          SameSystem { s with
            ioLog := .escape c :: s.ioLog, extOp := t.extOp, env := { s.env with ext := t.env.ext } } t)
      (s.extOp = none ∨ x.pereq = 0 →
        (x.held = true → ¬fninit → exec (.esc op e) s = .next { s with waiting := .esc }) ∧
        (x.held = false ∨ fninit →
          (x.error = false ∨ untested →
            (x.present = false → Ends (.esc op e) s fun t =>
              WroteNothing s t ∧ t.flags = s.flags ∧ t.ip = s.nextIp ∧ pins x.held t ∧
              SameSystem { s with env := { s.env with ext := t.env.ext } } t) ∧
            (x.present = true → handed false)) ∧
          (x.error = true → ¬untested →
            let w := { s with env := { s.env with ext := { x with busyFor := 0 } } }
            exec (.esc op e) s = .next (w.raise .mf)))) ∧
      (¬(s.extOp = none ∨ x.pereq = 0) → x.error = false ∨ untested → Ends (.esc op e) s fun t =>
        t.env.ext.pereq = 0 ∧ SameRegsBut s t [] ∧ t.flags = s.flags ∧
        (fninit → t.ip = s.nextIp ∧ (x.present = true → t.env.ext.held = false)) ∧
        (¬fninit → (t.env.ext.held = true → t.ip = s.ip ∧ t.waiting = .esc) ∧
          (t.env.ext.held = false → t.ip = s.nextIp)))) ∧
    (s.waiting = .esc → s.run = .running → s.extOp = none ∨ x.pereq = 0 → s.atBoundary = s)

/-! ### The extended instructions -/

/-- PUSHA and POPA complete where the eight words lie in the stack segment: PUSHA stores SP as it was, POPA passes over
that word. -/
def Obligations.PushAllPopAll : Prop :=
  ∀ s : State, Canonical s →
    (s.stackRoom 8 = true → s.segRights .ss true = true → Ends .pusha s fun t =>
      FramePushed s t
        [s.reg .ax, s.reg .cx, s.reg .dx, s.reg .bx, s.reg .sp, s.reg .bp, s.reg .si, s.reg .di] [] ∧
      t.flags = s.flags ∧ t.ip = s.nextIp ∧ SameSystem s t) ∧
    (s.checkFrame 8 = .ok () → s.segRights .ss false = true → Ends .popa s fun t =>
      t.reg .di = s.stackWord 0 ∧ t.reg .si = s.stackWord 2 ∧ t.reg .bp = s.stackWord 4 ∧
      t.reg .sp = s.reg .sp + 16 ∧ t.reg .bx = s.stackWord 8 ∧ t.reg .dx = s.stackWord 10 ∧
      t.reg .cx = s.stackWord 12 ∧ t.reg .ax = s.stackWord 14 ∧
      SameMemory s t ∧ t.flags = s.flags ∧ t.ip = s.nextIp ∧ SameSystem s t)

/-- ENTER, LEAVE and BOUND complete. ENTER at level `L` pushes BP, then `L - 1` words of the display below BP, then the new
frame pointer; a display word is as it was before the instruction where the new frame does not overlap it. BOUND
completes when the register lies between the two signed words of its operand, both included, and takes interrupt 5
otherwise. -/
def Obligations.EnterLeaveBound : Prop :=
  ∀ s : State, Canonical s →
    (∀ w b, s.checkEnter w b = .ok () →
      let level := b.toNat % 32
      let words := if level = 0 then 1 else level + 1
      Ends (.enterDwDb w b) s fun t =>
        t.reg .bp = s.reg .sp - 2 ∧ t.reg .sp = s.reg .sp - BitVec.ofNat 16 (2 * words) - w ∧
        SameRegsBut s t [.bp, .sp] ∧ SameMemoryBut s t (s.belowCells words) ∧
        HoldsWord s t (s.stackAddr 2) (s.reg .bp) ∧
        (level ≠ 0 → HoldsWord s t (s.stackAddr (BitVec.ofNat 16 (2 * words))) (s.reg .sp - 2)) ∧
        (∀ i, 1 ≤ i → i < level →
          (∀ k ∈ s.wordCells (s.linear .ss (s.reg .bp - BitVec.ofNat 16 (2 * i))), k ∉ s.belowCells words) →
          HoldsWord s t (s.stackAddr (BitVec.ofNat 16 (2 * (i + 1))))
            (s.peek16 .ss (s.reg .bp - BitVec.ofNat 16 (2 * i)))) ∧
        t.flags = s.flags ∧ t.ip = s.nextIp ∧ SameSystem s t) ∧
    (s.check .ss (s.reg .bp) 2 false = .ok () → Ends .leave s fun t =>
      t.reg .bp = s.peek16 .ss (s.reg .bp) ∧ t.reg .sp = s.reg .bp + 2 ∧ SameRegsBut s t [.bp, .sp] ∧
      SameMemory s t ∧ t.flags = s.flags ∧ t.ip = s.nextIp ∧ SameSystem s t) ∧
    (∀ r m, s.checkMem m 4 false = .ok () →
      let inside := (s.memWord (.mem m) 0).toInt ≤ (s.reg r).toInt ∧ (s.reg r).toInt ≤ (s.memWord (.mem m) 2).toInt
      (inside → MovesIp (.boundRwMd r (.mem m)) s s.nextIp) ∧
      (¬inside → exec (.boundRwMd r (.mem m)) s = .next (s.raise .br)))

/-! ### System registers -/

/-- SGDT, SIDT, LGDT, LIDT, SMSW, LMSW, CLTS complete. A table register is six bytes in memory, the limit first; the sixth
byte stored is left open. LMSW can set PE and not clear it. -/
def Obligations.SystemRegisters : Prop :=
  ∀ s : State,
    (∀ m, Canonical s → s.checkMem m 6 true = .ok () →
      StoresTable (.sgdtM (.mem m)) s m s.gdtr ∧ StoresTable (.sidtM (.mem m)) s m s.idtr) ∧
    (∀ m, s.unprivileged = false → s.checkMem m 6 false = .ok () →
      (Ends (.lgdtM (.mem m)) s fun t => HeldTable s m t.gdtr ∧ WroteNothing s t ∧ t.flags = s.flags ∧
        t.ip = s.nextIp ∧ SameSystem { s with gdtr := t.gdtr } t) ∧
      (Ends (.lidtM (.mem m)) s fun t => HeldTable s m t.idtr ∧ WroteNothing s t ∧ t.flags = s.flags ∧
        t.ip = s.nextIp ∧ SameSystem { s with idtr := t.idtr } t)) ∧
    (∀ e, Canonical s → s.checkEw e true = .ok () → ∃ v : Word, MovesEw (.smswEw e) s e v ∧
      v.getLsbD 0 = s.msw.pe ∧ v.getLsbD 1 = s.msw.mp ∧ v.getLsbD 2 = s.msw.em ∧ v.getLsbD 3 = s.msw.ts) ∧
    (∀ e, s.unprivileged = false → s.checkEw e false = .ok () → Ends (.lmswEw e) s fun t =>
      t.msw.pe = (s.msw.pe || (s.getEw e).getLsbD 0) ∧ t.msw.mp = (s.getEw e).getLsbD 1 ∧
      t.msw.em = (s.getEw e).getLsbD 2 ∧ t.msw.ts = (s.getEw e).getLsbD 3 ∧ WroteNothing s t ∧ t.flags = s.flags ∧
      t.ip = s.nextIp ∧ SameSystem { s with msw := t.msw } t) ∧
    (s.unprivileged = false → Ends .clts s fun t => t.msw = { s.msw with ts := false } ∧ WroteNothing s t ∧
      t.flags = s.flags ∧ t.ip = s.nextIp ∧ SameSystem { s with msw := t.msw } t)

/-- SLDT, STR, LLDT, LTR complete in Protected Mode. LLDT of a null selector marks LDTR invalid; LTR marks the TSS busy
in memory. -/
def Obligations.LdtrAndTr : Prop :=
  ∀ (s : State) e, Canonical s → s.msw.pe = true →
    (s.checkEw e true = .ok () → MovesEw (.sldtEw e) s e s.ldtr.sel ∧ MovesEw (.strEw e) s e s.tr.sel) ∧
    (s.cpl = 0 → s.checkEw e false = .ok () →
      let sel := s.getEw e
      (s.checkLdt sel = .ok () → Ends (.lldtEw e) s fun t =>
        t.ldtr.sel = sel ∧ (t.ldtr.valid = true ↔ selNull sel = false) ∧
        (selNull sel = false → t.ldtr.base = (s.desc sel).base ∧ t.ldtr.limit = (s.desc sel).limit) ∧
        WroteNothing s t ∧ t.flags = s.flags ∧ t.ip = s.nextIp ∧ SameSystem { s with ldtr := t.ldtr } t) ∧
      (s.checkTr sel = .ok () → Ends (.ltrEw e) s fun t =>
        t.tr = { sel := sel, base := (s.desc sel).base, limit := (s.desc sel).limit, valid := true } ∧
        HoldsByte s t (s.cell (s.descAddr sel + 5)) ((s.desc sel).access ||| 2) ∧
        SameMemoryBut s t [s.cell (s.descAddr sel + 5)] ∧ SameRegsBut s t [] ∧ t.flags = s.flags ∧
        t.ip = s.nextIp ∧ SameSystem { s with tr := t.tr } t))

/-- VERR, VERW, LAR, LSL and ARPL complete in Protected Mode whatever the selector: ZF says whether it passed; LAR and LSL
load their register only then. ARPL raises the RPL of its operand to that of the register, if it is lower. The Accessed
bit that a passed test sets, LAR of a null selector clearing ZF and LSL of conforming code passing at any level are the
spec's decisions 92 D13, D35 and D36 (log 31); that LAR of an empty or illegal descriptor type fails is its ruling 93 U16
(DEDUCED to stand over R736's words, log 38). -/
def Obligations.SelectorQueries : Prop :=
  ∀ (s : State) e, Canonical s → s.msw.pe = true →
    (s.checkEw e false = .ok () →
      let sel := s.getEw e
      let d := s.desc sel
      let lar := SelDefined s sel ∧ SelVisible s sel ∧
        (d.access.getLsbD 4 = true ∨ 1 ≤ (arType d.access).toNat ∧ (arType d.access).toNat ≤ 7)
      let lsl := SelDefined s sel ∧ SelVisible s sel ∧
        (d.access.getLsbD 4 = true ∨ arType d.access = 1 ∨ arType d.access = 2 ∨ arType d.access = 3)
      (Ends (.verrEw e) s fun t =>
        SelTested s t (SelDefined s sel ∧ arReadable d.access = true ∧ SelVisible s sel) sel []) ∧
      (Ends (.verwEw e) s fun t =>
        SelTested s t (SelDefined s sel ∧ arWritableData d.access = true ∧ SelVisible s sel) sel []) ∧
      (∀ r, Ends (.larRwEw r e) s fun t => SelTested s t lar sel [r] ∧
        (lar → (t.reg r).hi = d.access ∧ (t.reg r).lo = 0) ∧ (¬lar → t.reg r = s.reg r)) ∧
      (∀ r, Ends (.lslRwEw r e) s fun t => SelTested s t lsl sel [r] ∧
        (lsl → t.reg r = d.limit) ∧ (¬lsl → t.reg r = s.reg r))) ∧
    (∀ r, s.checkEw e true = .ok () →
      ((selRpl (s.getEw e)).toNat < (selRpl (s.reg r)).toNat → ∃ v : Word,
        EndsEw (.arplEwRw e r) s e v (fun g => g = { s.flags with zf := true }) ∧
        v.extractLsb' 0 2 = (s.reg r).extractLsb' 0 2 ∧ v.extractLsb' 2 14 = (s.getEw e).extractLsb' 2 14) ∧
      (¬(selRpl (s.getEw e)).toNat < (selRpl (s.reg r)).toNat →
        SetsFlags (.arplEwRw e r) s { s.flags with zf := false }))

/-! ### Interrupts, exceptions and returns -/

/-- INT 3, INT n and INTO complete in Real Address Mode when the vector is inside the table and the stack has room: the
saved IP is that of the next instruction; INTO with OF clear only advances. What becomes of the mark `pastEnd` is
DEDUCED, log 40. -/
def Obligations.SoftwareInterruptsReal : Prop :=
  ∀ s : State, Canonical s → InReal s → s.stackRoom 3 = true →
    let takes := fun i (n : Byte) => 4 * n.toNat + 3 ≤ s.idtr.limit.toNat → Ends i s fun t => TookReal s t n s.nextIp
    takes .int3 3 ∧ (∀ b, takes (.intDb b) b) ∧ (s.flags.of = true → takes .into 4) ∧
    (s.flags.of = false → GoesOn .into s)

/-- An exception of Real Address Mode saves the address of the instruction's first byte; a vector outside the table
becomes interrupt 8, with nothing pushed for the vector itself, which is the spec's decision 92 D38 (log 33); where the
first, second or third push does not fit the CPU shuts down with the pushes before it done. A transfer of control
ending the mark `pastEnd` is DEDUCED, log 40. -/
def Obligations.ExceptionEntryReal : Prop :=
  ∀ (s : State) (n : Byte) (code : Option Word), Canonical s → InReal s →
    (4 * n.toNat + 3 ≤ s.idtr.limit.toNat → s.stackRoom 3 = true → TookReal s (s.raise (.trap n code)) n s.ip) ∧
    (s.idtr.limit.toNat < 4 * n.toNat + 3 → n ≠ 8 → n ≠ 13 → 35 ≤ s.idtr.limit.toNat → s.stackRoom 3 = true →
      TookReal s (s.raise (.trap n code)) 8 s.ip) ∧
    (s.idtr.limit.toNat < 4 * n.toNat + 3 → n = 8 ∨ n = 13 ∨ s.idtr.limit.toNat < 35 →
      s.raise (.trap n code) = s.enterShutdown) ∧
    (4 * n.toNat + 3 ≤ s.idtr.limit.toNat → s.stackRoom 1 = false → s.raise (.trap n code) = s.enterShutdown) ∧
    (∀ j, j < 3 → 4 * n.toNat + 3 ≤ s.idtr.limit.toNat → s.stackRoom j = true → s.stackRoom (j + 1) = false →
      let t := s.raise (.trap n code)
      FramePushed s t ([s.flags.toWord, s.cs.sel, s.ip].take j) [] ∧ t.run = .shutdown ∧ t.ip = s.ip ∧
      t.flags = s.flags ∧ SameSystem { s with run := .shutdown } t)

/-- IRET completes in Real Address Mode: IP, CS and FLAGS from the stack, IOPL and NT kept, the NMI mask ended. A
transfer of control ending the mark `pastEnd` is DEDUCED, log 40. -/
def Obligations.InterruptReturnReal : Prop :=
  ∀ s : State, InReal s → s.checkFrame 3 = .ok () →
    let w := s.stackWord 4
    Ends .iret s fun t =>
      FarReal s t (s.stackWord 2) (s.stackWord 0) ∧ t.reg .sp = s.reg .sp + 6 ∧ SameRegsBut s t [.sp] ∧
      SameMemory s t ∧ t.flags = { Flags.ofWord w with iopl := s.flags.iopl, nt := s.flags.nt } ∧
      SameHidden { s with nmiMasked := false } t

/-- A vector delivered in Real Address Mode and the IRET of its handler bring back CS, IP, SP and FLAGS, where the
frame is in memory that keeps what is written. A transfer of control ending the mark `pastEnd` is DEDUCED, log 40. -/
def Obligations.InterruptThenReturnReal : Prop :=
  ∀ (s t : State) (n : Byte), Canonical s → InReal s → s.stackRoom 3 = true →
    4 * n.toNat + 3 ≤ s.idtr.limit.toNat → s.cs = realSeg s.cs.sel → (∀ k ∈ s.belowCells 3, s.isRom k = false) →
    exec (.intDb n) s = .next t →
    Ends .iret t fun u => u.cs = s.cs ∧ TransferredTo u s.nextIp ∧ u.regs = s.regs ∧ u.flags = s.flags ∧ u.ss = s.ss ∧
      u.ds = s.ds ∧ u.es = s.es ∧ u.msw = s.msw ∧ SameTables s u ∧ SameMemoryBut s u (s.belowCells 3)

/-- Protected Mode through a trap or interrupt gate without a change of level: an exception pushes its error code last
and saves the address of the instruction; INT n needs a gate whose DPL is at least CPL and saves the next one. A
transfer of control ending the mark `pastEnd` is DEDUCED, log 40. -/
def Obligations.GateAtSameLevel : Prop :=
  ∀ s : State, Canonical s → s.msw.pe = true →
    (∀ n code, n ≠ 7 → n ≠ 16 → GateReady s n (3 + code.toList.length) →
      TookGate s (s.raise (.trap n code)) n s.ip code) ∧
    (∀ n, GateReady s n 3 → s.cpl.toNat ≤ (s.idtGate n).dpl.toNat →
      Ends (.intDb n) s fun t => TookGate s t n s.nextIp none) ∧
    (GateReady s 3 3 → s.cpl.toNat ≤ (s.idtGate 3).dpl.toNat →
      Ends .int3 s fun t => TookGate s t 3 s.nextIp none)

/-- IRET with NT = 0 and a far RET complete in Protected Mode when they return to their own level: CS:IP and SP, the
descriptor accessed; IRET loads FLAGS as POPF does and ends the NMI mask. A transfer of control ending the mark
`pastEnd` is DEDUCED, log 40. -/
def Obligations.ReturnsAtSameLevel : Prop :=
  ∀ s : State, Canonical s → s.msw.pe = true → s.segRights .ss false = true →
    let sel := s.stackWord 2
    let w := s.stackWord 4
    selRpl sel = s.cpl → ReturnsTo s sel (s.stackWord 0) s.cpl →
    let P := fun (u : State) (k : Word) (t : State) =>
      FarCode u t sel (s.stackWord 0) ∧ t.reg .sp = s.reg .sp + k ∧ SameRegsBut s t [.sp] ∧
      SameMemoryBut s t [s.cell (s.descAddr sel + 5)] ∧ t.cpl = s.cpl
    (s.checkFrame 3 = .ok () → s.flags.nt = false → Ends .iret s fun t => P s.unmaskNmi 6 t ∧
      t.flags = { Flags.ofWord w with
        iopl := if s.cpl = 0 then w.extractLsb' 12 2 else s.flags.iopl
        ief := if s.cpl.toNat ≤ s.flags.iopl.toNat then w.getLsbD 9 else s.flags.ief }) ∧
    (s.checkFrame 2 = .ok () → (Ends .retFar s fun t => P s 4 t ∧ t.flags = s.flags) ∧
      ∀ imm, Ends (.retFarDw imm) s fun t => P s (4 + imm) t ∧ t.flags = s.flags)

/-- A far RET to a less privileged level completes, in both forms, when its tests pass: the level is the RPL of the
return selector, SS and SP come from the caller's frame, both descriptors become accessed, and DS and ES are kept where
they are valid at that level and nulled where they are not. Which words an odd operand makes the instruction test is
the model's choice, log 39; that DS and ES are judged by their caches is the spec's decision 92 D14 (log 31). A
transfer of control ending the mark `pastEnd` is DEDUCED, log 40. -/
def Obligations.FarReturnOuterLevel : Prop :=
  ∀ (s : State) (i : Instr) (imm : Word), Canonical s → s.msw.pe = true → ReturnsFar i imm →
    s.check .ss (s.reg .sp + 2) 2 false = .ok () → s.cpl.toNat < (selRpl (s.stackWord 2)).toNat →
    s.checkRetOuter (s.stackWord 2) imm = .ok () →
    let rcs := s.stackWord 2
    let rss := s.stackWord (6 + imm)
    let p := selRpl rcs
    Ends i s fun t =>
      t.cpl = p ∧ t.cs.sel = rcs ∧ CachedFrom t.cs (s.desc rcs) ∧ TransferredTo t (s.stackWord 0) ∧
      t.ss.sel = rss ∧ CachedFrom t.ss (s.desc rss) ∧ selRpl rss = p ∧ t.reg .sp = s.stackWord (4 + imm) + imm ∧
      SameRegsBut s t [.sp] ∧
      (∀ r, r = .ds ∨ r = .es →
        (ValidAtLevel s (s.seg r) p → t.seg r = s.seg r) ∧
        (¬ValidAtLevel s (s.seg r) p → (t.seg r).sel = 0 ∧ (t.seg r).access = 0 ∧ (t.seg r).valid = false)) ∧
      MarkedAccessed s t rcs ∧ MarkedAccessed s t rss ∧ SameMemoryBut s t [s.accessCell rcs, s.accessCell rss] ∧
      t.flags = s.flags ∧ t.msw = s.msw ∧ SameTables s t ∧ SameHidden s t

/-- A CALL through a call gate to a more privileged code segment, with the pointer in the instruction or in memory,
completes when its tests pass: the level is the code segment's DPL, the stack is the one the TSS holds for it, and the
offset of the instruction is not used. On the new stack stand the caller's SS and SP, the gate's parameter words in
their order, and the return address; besides that frame only the two access bytes may change. The layout of gate and
TSS is PRESUMED, log 25. A transfer of control ending the mark `pastEnd` is DEDUCED, log 40. -/
def Obligations.CallGateToInnerLevel : Prop :=
  ∀ (s : State) (i : Instr) (sel off nsp nss : Word), Canonical s → s.msw.pe = true → CallsFar i s sel off →
    s.checkFarSel sel = .ok () → arType (s.desc sel).access = 4 → s.checkCallGate sel = .ok () →
    let g := s.desc sel
    let cd := s.desc g.gateSel
    cd.present = true → arConforming cd.access = false → cd.dpl.toNat < s.cpl.toNat →
    s.innerStack cd.dpl false = .ok (nsp, nss) → s.checkCallInner sel nss nsp = .ok () →
    let u := s.onStack nss nsp
    let parameters := (List.range g.gateCount).reverse.map fun k => s.stackWord (BitVec.ofNat 16 (2 * k))
    let frame := [s.ss.sel, s.reg .sp] ++ parameters ++ [s.cs.sel, s.nextIp]
    Ends i s fun t =>
      FramePushed u t frame [s.accessCell nss, s.accessCell g.gateSel] ∧
      (∀ x, x = nss ∨ x = g.gateSel → s.accessCell x ∉ u.belowCells frame.length → MarkedAccessed s t x) ∧
      t.cpl = cd.dpl ∧ t.cs.sel = selWithRpl g.gateSel cd.dpl ∧ CachedFrom t.cs cd ∧ TransferredTo t g.gateOffset ∧
      t.ss.sel = nss ∧ CachedFrom t.ss (s.desc nss) ∧
      t.reg .sp = nsp - BitVec.ofNat 16 (8 + 2 * g.gateCount) ∧ SameRegsBut s t [.sp] ∧ t.ds = s.ds ∧ t.es = s.es ∧
      t.flags = s.flags ∧ t.msw = s.msw ∧ SameTables s t ∧ SameHidden s t

/-- A task switch that succeeds: JMP and CALL to a TSS leave TS set, TR at the new TSS, NT as nesting says, and the
level the RPL of the new task's CS. The outgoing registers stand in the old TSS; the incoming ones are those of the new
TSS; the incoming descriptor is busy; a CALL leaves the back link and the old descriptor busy, a JMP clears its busy
bit. A later store of the switch may overwrite an earlier one: each clause is about the cells the later ones do not
reach. The layout of the TSS is PRESUMED, log 25. A transfer of control ending the mark `pastEnd` is DEDUCED, log 40.
-/
def Obligations.TaskSwitchByJumpAndCall : Prop :=
  ∀ (s t : State) (i : Instr) (sel off : Word) (k : SwitchKind), Canonical s → s.msw.pe = true →
    k = .jmp ∧ JumpsFar i s sel off ∨ k = .call ∧ CallsFar i s sel off → s.checkFarSel sel = .ok () →
    arType (s.desc sel).access = 1 → s.farTss sel k = .ok t →
    let new := (s.desc sel).base
    let oldAt := fun o : Nat => s.tr.base + BitVec.ofNat 24 o
    let newAt := fun o : Nat => new + BitVec.ofNat 24 o
    let saved : List (Nat × Word) :=
      [(14, s.nextIp), (16, s.flags.toWord), (18, s.reg .ax), (20, s.reg .cx), (22, s.reg .dx), (24, s.reg .bx),
        (26, s.reg .sp), (28, s.reg .bp), (30, s.reg .si), (32, s.reg .di), (34, s.es.sel), (36, s.cs.sel),
        (38, s.ss.sel), (40, s.ds.sel)]
    let busy := s.accessCell sel
    let savedCells := saved.flatMap fun x => s.wordCells (oldAt x.1)
    let link := if k = .call then s.wordCells new else [s.accessCell s.tr.sel]
    let marks := [t.ss.sel, t.cs.sel, t.ds.sel, t.es.sel].map t.accessCell
    let loads := fun (o : Nat) (P : Word → Prop) =>
      (∀ c ∈ s.wordCells (newAt o), c ∉ busy :: savedCells ++ link) → P (s.readWord (newAt o))
    exec i s = .next t ∧
    t.msw = { s.msw with ts := true } ∧
    t.tr = { sel := sel, base := new, limit := (s.desc sel).limit, valid := true } ∧
    (t.flags.nt = true ↔ k = .call) ∧ t.cpl = selRpl t.cs.sel ∧ selRpl t.ss.sel = t.cpl ∧ t.cs.valid = true ∧
    t.ss.valid = true ∧ t.ip.toNat ≤ t.cs.limit.toNat ∧ t.pastEnd = false ∧ t.gdtr = s.gdtr ∧ t.idtr = s.idtr ∧ SameHidden s t ∧
    SameMemoryBut s t (busy :: savedCells ++ link ++ marks) ∧
    (∀ x ∈ saved, HoldsWordBut s t (oldAt x.1) x.2 (link ++ marks)) ∧
    (busy ∉ savedCells ++ link ++ marks → HoldsByte s t busy ((s.desc sel).access ||| 2)) ∧
    (k = .call → HoldsWordBut s t new s.tr.sel marks) ∧
    (k = .jmp → s.accessCell s.tr.sel ∉ busy :: savedCells ++ marks →
      HoldsByte s t (s.accessCell s.tr.sel) ((s.desc s.tr.sel).access &&& 0xFD)) ∧
    loads 14 (fun v => t.ip = v) ∧ loads 16 (fun v => t.flags = { Flags.ofWord v with nt := decide (k = .call) }) ∧
    loads 18 (fun v => t.reg .ax = v) ∧ loads 20 (fun v => t.reg .cx = v) ∧ loads 22 (fun v => t.reg .dx = v) ∧
    loads 24 (fun v => t.reg .bx = v) ∧ loads 26 (fun v => t.reg .sp = v) ∧ loads 28 (fun v => t.reg .bp = v) ∧
    loads 30 (fun v => t.reg .si = v) ∧ loads 32 (fun v => t.reg .di = v) ∧ loads 34 (fun v => t.es.sel = v) ∧
    loads 36 (fun v => t.cs.sel = v) ∧ loads 38 (fun v => t.ss.sel = v) ∧ loads 40 (fun v => t.ds.sel = v) ∧
    loads 42 (fun v => t.ldtr.sel = v)

/-- What the boundary accepts in Real Address Mode: NMI before INTR, INTR only with IF set and no inhibit; the handler
is entered with the current IP saved and IF clear, and an NMI masks further ones. A transfer of control ending the mark
`pastEnd` is DEDUCED, log 40. -/
def Obligations.BoundaryEventsReal : Prop :=
  ∀ s : State, Canonical s → InReal s → s.stackRoom 3 = true → s.idtr.limit.toNat = 0x3FF →
    (s.intInhibit ≠ .ss → s.nmiPending = true → s.nmiMasked = false →
      ∃ t, s.boundaryEvent = some t ∧ TookReal s.takeNmi t 2 s.ip) ∧
    (s.nmiPending = false ∨ s.nmiMasked = true → s.peOverrun = false ∨ s.nmiMasked = true →
      ∀ n rest, s.env.intr = n :: rest →
        (s.flags.ief = true → s.intInhibit = .none →
          ∃ t, s.boundaryEvent = some t ∧ TookReal (s.ackIntr n rest) t n s.ip) ∧
        (s.flags.ief = false ∨ s.intInhibit ≠ .none → s.boundaryEvent = none))

/-! ### Invalid encodings and prefixes -/

/-- Every invalid encoding takes its exception: the #UD rows, the #GP(0) rows, a register where memory is required, and
in Real Address Mode what that mode does not recognise. #UD for 82, 83 /1 /4 /6, the /6 shifts, FF /6 and 8F /0 with a
register and the other bytes no page defines, and the error code 0 of 8F /1 to /7 and FF /7, are the spec's decision
92 D18 (log 11). -/
def Obligations.InvalidEncodings : Prop :=
  ∀ s : State,
    (∀ i ∈ udRows, exec i s = .next (s.raise .ud)) ∧ (∀ b, exec (.ud0F b) s = .next (s.raise .ud)) ∧
    (∀ i ∈ gpRows, exec i s = .next (s.raise (.gp 0))) ∧
    (∀ r q, ∀ i ∈ regOfMemForms r q, exec i s = .next (s.raise .ud)) ∧
    (s.msw.pe = false → ∀ r e, ∀ i ∈ protectedOnly r e, exec i s = .next (s.raise .ud))

/-- A prefix latches its variable for the instruction it stands before, and changes nothing else; IP stays at the first
prefix byte. A prefix as a token of its own is the model's choice, log 10; that a later prefix replaces an earlier one of
its group is the spec's decision 92 D17 (log 11). -/
def Obligations.PrefixesLatch : Prop :=
  ∀ s : State,
    let latches := fun i (c : Cur) => Ends i s fun t =>
      WroteNothing s t ∧ t.flags = s.flags ∧ t.ip = s.ip ∧ SameSystem { s with cur := c } t
    latches .segEs { s.cur with seg := some .es } ∧ latches .segCs { s.cur with seg := some .cs } ∧
    latches .segSs { s.cur with seg := some .ss } ∧ latches .segDs { s.cur with seg := some .ds } ∧
    latches .rep { s.cur with rep := some .repe } ∧ latches .repne { s.cur with rep := some .repne } ∧
    latches .lock { s.cur with lock := true }

/-! ### Decoding and the step -/

/-- Decoding undoes encoding, for every well-formed instruction, whatever bytes follow it; a repeat prefix alone is
followed by nothing here, because with a string opcode after it it is another row of the table. -/
def Obligations.DecodeUndoesEncode : Prop :=
  ∀ i : Instr, i.wf = true → ∀ rest : List Byte, (i = .rep ∨ i = .repne → rest = []) →
    decode (encode i ++ rest) = .ok (i, rest)

/-- Bytes written out from the opcode table decode to the instructions they stand for, one or more of each family. -/
def Obligations.WrittenBytesDecode : Prop :=
  decode [0x01, 0xD8] = .ok (.addEwRw (.reg .ax) .bx, []) ∧
  decode [0x8B, 0x46, 0xFE] = .ok (.movRwEw .ax (.mem (.idx .bp (.d8 0xFE))), []) ∧
  decode [0x83, 0xE8, 0xFF] = .ok (.subEwDb (.reg .ax) 0xFF, []) ∧
  decode [0xD1, 0xE0] = .ok (.salEw1 (.reg .ax), []) ∧
  decode [0xF3, 0xA5] = .ok (.repMovsw, []) ∧
  decode [0x75, 0x05] = .ok (.jneCb 0x05, []) ∧
  decode [0xEA, 0x5B, 0xE0, 0x00, 0xF0] = .ok (.jmpCd 0xE05B 0xF000, []) ∧
  decode [0xFA] = .ok (.cli, []) ∧
  decode [0xC8, 0x10, 0x00, 0x01] = .ok (.enterDwDb 0x0010 0x01, []) ∧
  decode [0x0F, 0x01, 0x16, 0x00, 0x20] = .ok (.lgdtM (.mem (.direct 0x2000)), []) ∧
  decode [0x26] = .ok (.segEs, []) ∧ decode [0xD6] = .ok (.udD6, [])

/-- A step at a quiet boundary runs the instruction whose bytes stand at CS:IP, on the state with TF latched, the
inhibit cleared and the instruction's length consumed; then the single-step trap follows if it is due. With one prefix
byte before it, it runs with that prefix latched and the length of both. More than ten bytes are #UD, whatever they
are: the order of that check before LOCK and the #GP rows is the spec's decision 92 D17 (log 11). The trap after each
iteration of a repeated string is the spec's decision 92 D24 (PRESUMED, log 27); that it follows HLT, and an
instruction that delivered an exception or INT, is its decision 92 D39 (log 33); that none falls while a WAIT or an ESC
still waits is DEDUCED, logs 19 and 41. After an instruction that ends at offset FFFFH the step takes #GP(0), Interrupt
13 in Real Address Mode, and fetches nothing at 0000H: DEDUCED, log 40. -/
def Obligations.StepRunsTheDecodedInstruction : Prop :=
  (∀ (s : State) (i : Instr) (rest : List Byte), Quiet s → isPrefix i = false →
    let started := fun c : Cur =>
      { s with tfAtStart := s.flags.tf, intInhibit := .none, waiting := .none, cur := c }
    let ended := fun t : State =>
      if t.tfAtStart = true ∧ t.intInhibit ≠ .ss ∧ t.waiting = .none ∧ t.run ≠ .shutdown
      then State.extInt { t with cur := Cur.empty } 1 else { t with cur := Cur.empty }
    (∀ bs, s.fetch tokenBytes s.ip.toNat = bs → decode bs = .ok (i, rest) →
      let s1 := started { Cur.empty with len := bs.length - rest.length }
      s1.nextIp = s.ip + BitVec.ofNat 16 (bs.length - rest.length) ∧
      ∀ t, exec i s1 = .next t → step s = .next (ended t)) ∧
    (∀ ps bs p tail c, s.fetch tokenBytes s.ip.toNat = ps → decode ps = .ok (p, tail) → ps.length = tail.length + 1 →
      (p = .segEs ∧ c = { Cur.empty with seg := some .es } ∨ p = .segCs ∧ c = { Cur.empty with seg := some .cs } ∨
       p = .segSs ∧ c = { Cur.empty with seg := some .ss } ∨ p = .segDs ∧ c = { Cur.empty with seg := some .ds } ∨
       p = .rep ∧ c = { Cur.empty with rep := some .repe } ∨
       p = .repne ∧ c = { Cur.empty with rep := some .repne }) →
      s.fetch tokenBytes (s.ip.toNat + 1) = bs → decode bs = .ok (i, rest) →
      ∀ t, exec i (started { c with len := 1 + (bs.length - rest.length) }) = .next t → step s = .next (ended t))) ∧
  (∀ (s : State) (i : Instr), 10 < s.cur.len → runMain i s = .next (s.raise .ud)) ∧
  (∀ s : State, Quiet s → s.pastEnd = true →
    let t := { s with tfAtStart := s.flags.tf, intInhibit := .none, waiting := .none, cur := Cur.empty }.raise (.gp 0)
    step s = .next (if t.tfAtStart = true ∧ t.run ≠ .shutdown
      then State.extInt { t with cur := Cur.empty } 1 else { t with cur := Cur.empty })) ∧
  (∀ s : State, (Ends .nop s fun t => t.pastEnd = true ↔ 0xFFFF < s.ip.toNat + s.cur.len) ∧
    ∀ b, InCode s (s.nextIp + sext16 b) → Ends (.jmpCb b) s fun t => t.pastEnd = false)

/-! ### Reset and the whole machine -/

/-- The registers that the manual gives after RESET, in Real Address Mode; the first instruction is fetched at FFFFF0H;
memory has its canonical form. With the RESET pin active a step brings those registers to these values, whatever the
machine was doing, and leaves memory alone. -/
def Obligations.ResetState : Prop :=
  (let s := State.reset
   s.flags.toWord = 0x0002 ∧ s.msw.toWord = 0xFFF0 ∧ s.ip = 0xFFF0 ∧
   s.cs.sel = 0xF000 ∧ s.cs.base = 0xFF0000 ∧ s.cs.limit = 0xFFFF ∧
   s.ds.sel = 0 ∧ s.es.sel = 0 ∧ s.ss.sel = 0 ∧ s.ds.base = 0 ∧ s.es.base = 0 ∧ s.ss.base = 0 ∧
   s.ds.limit = 0xFFFF ∧ s.es.limit = 0xFFFF ∧ s.ss.limit = 0xFFFF ∧
   s.idtr.base = 0 ∧ s.idtr.limit = 0x03FF ∧
   s.nmiPending = false ∧ s.nmiMasked = false ∧ s.peOverrun = false ∧ s.intInhibit = .none ∧ s.tfAtStart = false ∧
   s.run = .running ∧ s.linear .cs s.ip = 0xFFFFF0 ∧ Canonical s ∧ InReal s) ∧
  (∀ s : State, s.env.reset = true → ∃ t, step s = .next t ∧
    t.flags = State.reset.flags ∧ t.msw = State.reset.msw ∧ t.ip = 0xFFF0 ∧ t.cs = State.reset.cs ∧
    t.ds = State.reset.ds ∧ t.es = State.reset.es ∧ t.ss = State.reset.ss ∧ t.idtr = State.reset.idtr ∧
    t.nmiPending = false ∧ t.nmiMasked = false ∧ t.peOverrun = false ∧ t.run = .reset ∧ SameMemory s t ∧
    t.env = s.env)

/-- Every instruction answers a next state, in every state: every exception of the machine is one. So the step faults on
nothing, and refuses nothing but what the decoder does, D4 and D5 with a second byte other than 0AH. -/
def Obligations.EveryInstructionAnswers : Prop :=
  (∀ (i : Instr) (s : State), ∃ t, exec i s = .next t) ∧
  (∀ (s : State) f, step s ≠ .fault f) ∧
  (∀ (s : State) r, step s = .refused r → ∃ b : Byte, b ≠ 0x0A ∧ (r = .aamBase b ∨ r = .aadBase b))

/-- Every step keeps the canonical form of memory. -/
def Obligations.StepKeepsMemoryCanonical : Prop :=
  ∀ s t : State, Canonical s → step s = .next t → Canonical t

/-- Protected Mode ends only by RESET: no step without it clears PE. -/
def Obligations.StepKeepsProtectedMode : Prop :=
  ∀ s t : State, s.env.reset = false → s.msw.pe = true → step s = .next t → t.msw.pe = true

/-- At a level other than 0 no instruction of Protected Mode changes GDTR, IDTR, PE, MP or EM, whatever exception it
takes on the way. -/
def Obligations.OnlyLevelZeroSetsTheSystem : Prop :=
  ∀ (s t : State) (i : Instr), s.msw.pe = true → s.cpl ≠ 0 → exec i s = .next t →
    t.gdtr = s.gdtr ∧ t.idtr = s.idtr ∧ t.msw.pe = true ∧ t.msw.mp = s.msw.mp ∧ t.msw.em = s.msw.em

/-! ### Memory and its checks -/

/-- 20 R108 to R113, R115: the validity, rights and limit checks of an access, in that order, and the exception of each;
which offsets lie inside a segment, expand-down ones among them, for an operand of one or more bytes. #SS(0) for an SS
marked invalid is the spec's decision 92 D33 (log 32). -/
def Obligations.AccessChecks : Prop :=
  ∀ (s : State) (r : SReg) (off : Word) (n : Nat) (write : Bool), 0 < n →
    let g := s.seg r
    let outside := off.toNat + n - 1 > g.limit.toNat
    (s.msw.pe = false → s.check r off n write = if outside then .error (.gp 0) else .ok ()) ∧
    (s.msw.pe = true → s.check r off n write =
      if g.valid = false then .error (if r = .ss then .ss 0 else .gp 0)
      else if write = true ∧ ¬(g.access.getLsbD 3 = false ∧ g.access.getLsbD 1 = true) then .error (.gp 0)
      else if write = false ∧ g.access.getLsbD 3 = true ∧ g.access.getLsbD 1 = false then .error (.gp 0)
      else if (g.access.getLsbD 3 = false ∧ g.access.getLsbD 2 = true ∧
            (off.toNat ≤ g.limit.toNat ∨ 0xFFFF < off.toNat + n - 1)) ∨
          (¬(g.access.getLsbD 3 = false ∧ g.access.getLsbD 2 = true) ∧ outside) then
        .error (if r = .ss then .ss 0 else .gp 0)
      else .ok ())

/-- A word is stored low byte first and read back, at any address, the last one included; other cells keep their bytes;
in Real Address Mode under the A20 mask the high four address bits are ignored. The A20 mask is the spec's decision 92
D5 (log 7); the second byte of the word at the last address being the one at 000000H is its decision 92 D9 (log 28). -/
def Obligations.MemoryReadsBack : Prop :=
  ∀ (s : State) (a : Addr) (v : Word), Canonical s →
    (s.isRom (s.cell a) = false → s.isRom (s.cell (a + 1)) = false →
      (s.writeWord a v).readWord a = v ∧ (s.writeWord a v).readByte a = v.lo ∧
      (s.writeWord a v).readByte (a + 1) = v.hi) ∧
    SameMemoryBut s (s.writeWord a v) (s.wordCells a) ∧ Canonical (s.writeWord a v) ∧
    (s.msw.pe = false → s.env.a20Mask = true → s.readByte a = s.readByte (a &&& 0x0FFFFF)) ∧
    (s.msw.pe = true → s.cell a = a.toNat)
end

