-- ==== Sys2Proof/Laws/Word.lean ====
section
/-!
SUPPORT. The halves of a word and the word of two halves.
-/

namespace Sys2Proof


theorem wordOf_toNat (h l : Byte) : (wordOf h l).toNat = h.toNat * 256 + l.toNat := by
  rw [wordOf, BitVec.toNat_append, ← Nat.shiftLeft_add_eq_or_of_lt l.isLt, Nat.shiftLeft_eq]

theorem Word.lo_toNat (w : Word) : (Word.lo w).toNat = w.toNat % 256 := by simp [Word.lo]

theorem Word.hi_toNat (w : Word) : (Word.hi w).toNat = w.toNat / 256 := by
  have := w.isLt
  simp [Word.hi, Nat.shiftRight_eq_div_pow]; omega

@[simp] theorem lo_wordOf (h l : Byte) : Word.lo (wordOf h l) = l := by
  apply BitVec.eq_of_toNat_eq; rw [Word.lo_toNat, wordOf_toNat]; have := l.isLt; omega

@[simp] theorem hi_wordOf (h l : Byte) : Word.hi (wordOf h l) = h := by
  apply BitVec.eq_of_toNat_eq; rw [Word.hi_toNat, wordOf_toNat]; have := l.isLt; omega

@[simp] theorem wordOf_hi_lo (w : Word) : wordOf (Word.hi w) (Word.lo w) = w := by
  apply BitVec.eq_of_toNat_eq; rw [wordOf_toNat, Word.hi_toNat, Word.lo_toNat]; omega

end Sys2Proof
end

