-- ==== Sys2Proof/Laws/State.lean ====
section
/-!
SUPPORT. One lemma per field per update of the state, so that no later proof unfolds a record update.
-/

namespace Sys2Proof.Machine

variable (s : State)

/-! ### `setReg` -/

@[simp] theorem State.setReg_regs (r : Reg16) (v : Word) : (s.setReg r v).regs = s.regs.set r v := rfl
@[simp] theorem State.setReg_ip (r : Reg16) (v : Word) : (s.setReg r v).ip = s.ip := rfl
@[simp] theorem State.setReg_pastEnd (r : Reg16) (v : Word) : (s.setReg r v).pastEnd = s.pastEnd := rfl
@[simp] theorem State.setReg_flags (r : Reg16) (v : Word) : (s.setReg r v).flags = s.flags := rfl
@[simp] theorem State.setReg_msw (r : Reg16) (v : Word) : (s.setReg r v).msw = s.msw := rfl
@[simp] theorem State.setReg_cs (r : Reg16) (v : Word) : (s.setReg r v).cs = s.cs := rfl
@[simp] theorem State.setReg_ss (r : Reg16) (v : Word) : (s.setReg r v).ss = s.ss := rfl
@[simp] theorem State.setReg_ds (r : Reg16) (v : Word) : (s.setReg r v).ds = s.ds := rfl
@[simp] theorem State.setReg_es (r : Reg16) (v : Word) : (s.setReg r v).es = s.es := rfl
@[simp] theorem State.setReg_gdtr (r : Reg16) (v : Word) : (s.setReg r v).gdtr = s.gdtr := rfl
@[simp] theorem State.setReg_idtr (r : Reg16) (v : Word) : (s.setReg r v).idtr = s.idtr := rfl
@[simp] theorem State.setReg_ldtr (r : Reg16) (v : Word) : (s.setReg r v).ldtr = s.ldtr := rfl
@[simp] theorem State.setReg_tr (r : Reg16) (v : Word) : (s.setReg r v).tr = s.tr := rfl
@[simp] theorem State.setReg_nmiPending (r : Reg16) (v : Word) : (s.setReg r v).nmiPending = s.nmiPending := rfl
@[simp] theorem State.setReg_nmiMasked (r : Reg16) (v : Word) : (s.setReg r v).nmiMasked = s.nmiMasked := rfl
@[simp] theorem State.setReg_peOverrun (r : Reg16) (v : Word) : (s.setReg r v).peOverrun = s.peOverrun := rfl
@[simp] theorem State.setReg_intInhibit (r : Reg16) (v : Word) : (s.setReg r v).intInhibit = s.intInhibit := rfl
@[simp] theorem State.setReg_tfAtStart (r : Reg16) (v : Word) : (s.setReg r v).tfAtStart = s.tfAtStart := rfl
@[simp] theorem State.setReg_run (r : Reg16) (v : Word) : (s.setReg r v).run = s.run := rfl
@[simp] theorem State.setReg_cur (r : Reg16) (v : Word) : (s.setReg r v).cur = s.cur := rfl
@[simp] theorem State.setReg_waiting (r : Reg16) (v : Word) : (s.setReg r v).waiting = s.waiting := rfl
@[simp] theorem State.setReg_extOp (r : Reg16) (v : Word) : (s.setReg r v).extOp = s.extOp := rfl
@[simp] theorem State.setReg_mem (r : Reg16) (v : Word) : (s.setReg r v).mem = s.mem := rfl
@[simp] theorem State.setReg_ioLog (r : Reg16) (v : Word) : (s.setReg r v).ioLog = s.ioLog := rfl
@[simp] theorem State.setReg_env (r : Reg16) (v : Word) : (s.setReg r v).env = s.env := rfl
@[simp] theorem State.setReg_draw (r : Reg16) (v : Word) : (s.setReg r v).draw = s.draw := rfl

/-! ### `setReg8` -/

@[simp] theorem State.setReg8_regs (r : Reg8) (v : Byte) : (s.setReg8 r v).regs = s.regs.set8 r v := rfl
@[simp] theorem State.setReg8_ip (r : Reg8) (v : Byte) : (s.setReg8 r v).ip = s.ip := rfl
@[simp] theorem State.setReg8_pastEnd (r : Reg8) (v : Byte) : (s.setReg8 r v).pastEnd = s.pastEnd := rfl
@[simp] theorem State.setReg8_flags (r : Reg8) (v : Byte) : (s.setReg8 r v).flags = s.flags := rfl
@[simp] theorem State.setReg8_msw (r : Reg8) (v : Byte) : (s.setReg8 r v).msw = s.msw := rfl
@[simp] theorem State.setReg8_cs (r : Reg8) (v : Byte) : (s.setReg8 r v).cs = s.cs := rfl
@[simp] theorem State.setReg8_ss (r : Reg8) (v : Byte) : (s.setReg8 r v).ss = s.ss := rfl
@[simp] theorem State.setReg8_ds (r : Reg8) (v : Byte) : (s.setReg8 r v).ds = s.ds := rfl
@[simp] theorem State.setReg8_es (r : Reg8) (v : Byte) : (s.setReg8 r v).es = s.es := rfl
@[simp] theorem State.setReg8_gdtr (r : Reg8) (v : Byte) : (s.setReg8 r v).gdtr = s.gdtr := rfl
@[simp] theorem State.setReg8_idtr (r : Reg8) (v : Byte) : (s.setReg8 r v).idtr = s.idtr := rfl
@[simp] theorem State.setReg8_ldtr (r : Reg8) (v : Byte) : (s.setReg8 r v).ldtr = s.ldtr := rfl
@[simp] theorem State.setReg8_tr (r : Reg8) (v : Byte) : (s.setReg8 r v).tr = s.tr := rfl
@[simp] theorem State.setReg8_nmiPending (r : Reg8) (v : Byte) : (s.setReg8 r v).nmiPending = s.nmiPending := rfl
@[simp] theorem State.setReg8_nmiMasked (r : Reg8) (v : Byte) : (s.setReg8 r v).nmiMasked = s.nmiMasked := rfl
@[simp] theorem State.setReg8_peOverrun (r : Reg8) (v : Byte) : (s.setReg8 r v).peOverrun = s.peOverrun := rfl
@[simp] theorem State.setReg8_intInhibit (r : Reg8) (v : Byte) : (s.setReg8 r v).intInhibit = s.intInhibit := rfl
@[simp] theorem State.setReg8_tfAtStart (r : Reg8) (v : Byte) : (s.setReg8 r v).tfAtStart = s.tfAtStart := rfl
@[simp] theorem State.setReg8_run (r : Reg8) (v : Byte) : (s.setReg8 r v).run = s.run := rfl
@[simp] theorem State.setReg8_cur (r : Reg8) (v : Byte) : (s.setReg8 r v).cur = s.cur := rfl
@[simp] theorem State.setReg8_waiting (r : Reg8) (v : Byte) : (s.setReg8 r v).waiting = s.waiting := rfl
@[simp] theorem State.setReg8_extOp (r : Reg8) (v : Byte) : (s.setReg8 r v).extOp = s.extOp := rfl
@[simp] theorem State.setReg8_mem (r : Reg8) (v : Byte) : (s.setReg8 r v).mem = s.mem := rfl
@[simp] theorem State.setReg8_ioLog (r : Reg8) (v : Byte) : (s.setReg8 r v).ioLog = s.ioLog := rfl
@[simp] theorem State.setReg8_env (r : Reg8) (v : Byte) : (s.setReg8 r v).env = s.env := rfl
@[simp] theorem State.setReg8_draw (r : Reg8) (v : Byte) : (s.setReg8 r v).draw = s.draw := rfl

/-! ### `setFlags` -/

@[simp] theorem State.setFlags_regs (f : Flags) : (s.setFlags f).regs = s.regs := rfl
@[simp] theorem State.setFlags_ip (f : Flags) : (s.setFlags f).ip = s.ip := rfl
@[simp] theorem State.setFlags_pastEnd (f : Flags) : (s.setFlags f).pastEnd = s.pastEnd := rfl
@[simp] theorem State.setFlags_flags (f : Flags) : (s.setFlags f).flags = f := rfl
@[simp] theorem State.setFlags_msw (f : Flags) : (s.setFlags f).msw = s.msw := rfl
@[simp] theorem State.setFlags_cs (f : Flags) : (s.setFlags f).cs = s.cs := rfl
@[simp] theorem State.setFlags_ss (f : Flags) : (s.setFlags f).ss = s.ss := rfl
@[simp] theorem State.setFlags_ds (f : Flags) : (s.setFlags f).ds = s.ds := rfl
@[simp] theorem State.setFlags_es (f : Flags) : (s.setFlags f).es = s.es := rfl
@[simp] theorem State.setFlags_gdtr (f : Flags) : (s.setFlags f).gdtr = s.gdtr := rfl
@[simp] theorem State.setFlags_idtr (f : Flags) : (s.setFlags f).idtr = s.idtr := rfl
@[simp] theorem State.setFlags_ldtr (f : Flags) : (s.setFlags f).ldtr = s.ldtr := rfl
@[simp] theorem State.setFlags_tr (f : Flags) : (s.setFlags f).tr = s.tr := rfl
@[simp] theorem State.setFlags_nmiPending (f : Flags) : (s.setFlags f).nmiPending = s.nmiPending := rfl
@[simp] theorem State.setFlags_nmiMasked (f : Flags) : (s.setFlags f).nmiMasked = s.nmiMasked := rfl
@[simp] theorem State.setFlags_peOverrun (f : Flags) : (s.setFlags f).peOverrun = s.peOverrun := rfl
@[simp] theorem State.setFlags_intInhibit (f : Flags) : (s.setFlags f).intInhibit = s.intInhibit := rfl
@[simp] theorem State.setFlags_tfAtStart (f : Flags) : (s.setFlags f).tfAtStart = s.tfAtStart := rfl
@[simp] theorem State.setFlags_run (f : Flags) : (s.setFlags f).run = s.run := rfl
@[simp] theorem State.setFlags_cur (f : Flags) : (s.setFlags f).cur = s.cur := rfl
@[simp] theorem State.setFlags_waiting (f : Flags) : (s.setFlags f).waiting = s.waiting := rfl
@[simp] theorem State.setFlags_extOp (f : Flags) : (s.setFlags f).extOp = s.extOp := rfl
@[simp] theorem State.setFlags_mem (f : Flags) : (s.setFlags f).mem = s.mem := rfl
@[simp] theorem State.setFlags_ioLog (f : Flags) : (s.setFlags f).ioLog = s.ioLog := rfl
@[simp] theorem State.setFlags_env (f : Flags) : (s.setFlags f).env = s.env := rfl
@[simp] theorem State.setFlags_draw (f : Flags) : (s.setFlags f).draw = s.draw := rfl

/-! ### `setIp` -/

@[simp] theorem State.setIp_regs (w : Word) : (s.setIp w).regs = s.regs := rfl
@[simp] theorem State.setIp_ip (w : Word) : (s.setIp w).ip = w := rfl
@[simp] theorem State.setIp_pastEnd (w : Word) : (s.setIp w).pastEnd = false := rfl
@[simp] theorem State.setIp_flags (w : Word) : (s.setIp w).flags = s.flags := rfl
@[simp] theorem State.setIp_msw (w : Word) : (s.setIp w).msw = s.msw := rfl
@[simp] theorem State.setIp_cs (w : Word) : (s.setIp w).cs = s.cs := rfl
@[simp] theorem State.setIp_ss (w : Word) : (s.setIp w).ss = s.ss := rfl
@[simp] theorem State.setIp_ds (w : Word) : (s.setIp w).ds = s.ds := rfl
@[simp] theorem State.setIp_es (w : Word) : (s.setIp w).es = s.es := rfl
@[simp] theorem State.setIp_gdtr (w : Word) : (s.setIp w).gdtr = s.gdtr := rfl
@[simp] theorem State.setIp_idtr (w : Word) : (s.setIp w).idtr = s.idtr := rfl
@[simp] theorem State.setIp_ldtr (w : Word) : (s.setIp w).ldtr = s.ldtr := rfl
@[simp] theorem State.setIp_tr (w : Word) : (s.setIp w).tr = s.tr := rfl
@[simp] theorem State.setIp_nmiPending (w : Word) : (s.setIp w).nmiPending = s.nmiPending := rfl
@[simp] theorem State.setIp_nmiMasked (w : Word) : (s.setIp w).nmiMasked = s.nmiMasked := rfl
@[simp] theorem State.setIp_peOverrun (w : Word) : (s.setIp w).peOverrun = s.peOverrun := rfl
@[simp] theorem State.setIp_intInhibit (w : Word) : (s.setIp w).intInhibit = s.intInhibit := rfl
@[simp] theorem State.setIp_tfAtStart (w : Word) : (s.setIp w).tfAtStart = s.tfAtStart := rfl
@[simp] theorem State.setIp_run (w : Word) : (s.setIp w).run = s.run := rfl
@[simp] theorem State.setIp_cur (w : Word) : (s.setIp w).cur = s.cur := rfl
@[simp] theorem State.setIp_waiting (w : Word) : (s.setIp w).waiting = s.waiting := rfl
@[simp] theorem State.setIp_extOp (w : Word) : (s.setIp w).extOp = s.extOp := rfl
@[simp] theorem State.setIp_mem (w : Word) : (s.setIp w).mem = s.mem := rfl
@[simp] theorem State.setIp_ioLog (w : Word) : (s.setIp w).ioLog = s.ioLog := rfl
@[simp] theorem State.setIp_env (w : Word) : (s.setIp w).env = s.env := rfl
@[simp] theorem State.setIp_draw (w : Word) : (s.setIp w).draw = s.draw := rfl

/-! ### `drawn` -/

@[simp] theorem State.drawn_regs : (s.drawn).regs = s.regs := rfl
@[simp] theorem State.drawn_ip : (s.drawn).ip = s.ip := rfl
@[simp] theorem State.drawn_pastEnd : (s.drawn).pastEnd = s.pastEnd := rfl
@[simp] theorem State.drawn_flags : (s.drawn).flags = s.flags := rfl
@[simp] theorem State.drawn_msw : (s.drawn).msw = s.msw := rfl
@[simp] theorem State.drawn_cs : (s.drawn).cs = s.cs := rfl
@[simp] theorem State.drawn_ss : (s.drawn).ss = s.ss := rfl
@[simp] theorem State.drawn_ds : (s.drawn).ds = s.ds := rfl
@[simp] theorem State.drawn_es : (s.drawn).es = s.es := rfl
@[simp] theorem State.drawn_gdtr : (s.drawn).gdtr = s.gdtr := rfl
@[simp] theorem State.drawn_idtr : (s.drawn).idtr = s.idtr := rfl
@[simp] theorem State.drawn_ldtr : (s.drawn).ldtr = s.ldtr := rfl
@[simp] theorem State.drawn_tr : (s.drawn).tr = s.tr := rfl
@[simp] theorem State.drawn_nmiPending : (s.drawn).nmiPending = s.nmiPending := rfl
@[simp] theorem State.drawn_nmiMasked : (s.drawn).nmiMasked = s.nmiMasked := rfl
@[simp] theorem State.drawn_peOverrun : (s.drawn).peOverrun = s.peOverrun := rfl
@[simp] theorem State.drawn_intInhibit : (s.drawn).intInhibit = s.intInhibit := rfl
@[simp] theorem State.drawn_tfAtStart : (s.drawn).tfAtStart = s.tfAtStart := rfl
@[simp] theorem State.drawn_run : (s.drawn).run = s.run := rfl
@[simp] theorem State.drawn_cur : (s.drawn).cur = s.cur := rfl
@[simp] theorem State.drawn_waiting : (s.drawn).waiting = s.waiting := rfl
@[simp] theorem State.drawn_extOp : (s.drawn).extOp = s.extOp := rfl
@[simp] theorem State.drawn_mem : (s.drawn).mem = s.mem := rfl
@[simp] theorem State.drawn_ioLog : (s.drawn).ioLog = s.ioLog := rfl
@[simp] theorem State.drawn_env : (s.drawn).env = s.env := rfl
@[simp] theorem State.drawn_draw : (s.drawn).draw = s.draw + 1 := rfl

/-! ### `advance` -/

@[simp] theorem State.advance_regs : (s.advance).regs = s.regs := rfl
@[simp] theorem State.advance_ip : (s.advance).ip = s.nextIp := rfl
@[simp] theorem State.advance_pastEnd : (s.advance).pastEnd = s.endsAtTop := rfl
@[simp] theorem State.advance_flags : (s.advance).flags = s.flags := rfl
@[simp] theorem State.advance_msw : (s.advance).msw = s.msw := rfl
@[simp] theorem State.advance_cs : (s.advance).cs = s.cs := rfl
@[simp] theorem State.advance_ss : (s.advance).ss = s.ss := rfl
@[simp] theorem State.advance_ds : (s.advance).ds = s.ds := rfl
@[simp] theorem State.advance_es : (s.advance).es = s.es := rfl
@[simp] theorem State.advance_gdtr : (s.advance).gdtr = s.gdtr := rfl
@[simp] theorem State.advance_idtr : (s.advance).idtr = s.idtr := rfl
@[simp] theorem State.advance_ldtr : (s.advance).ldtr = s.ldtr := rfl
@[simp] theorem State.advance_tr : (s.advance).tr = s.tr := rfl
@[simp] theorem State.advance_nmiPending : (s.advance).nmiPending = s.nmiPending := rfl
@[simp] theorem State.advance_nmiMasked : (s.advance).nmiMasked = s.nmiMasked := rfl
@[simp] theorem State.advance_peOverrun : (s.advance).peOverrun = s.peOverrun := rfl
@[simp] theorem State.advance_intInhibit : (s.advance).intInhibit = s.intInhibit := rfl
@[simp] theorem State.advance_tfAtStart : (s.advance).tfAtStart = s.tfAtStart := rfl
@[simp] theorem State.advance_run : (s.advance).run = s.run := rfl
@[simp] theorem State.advance_cur : (s.advance).cur = s.cur := rfl
@[simp] theorem State.advance_waiting : (s.advance).waiting = s.waiting := rfl
@[simp] theorem State.advance_extOp : (s.advance).extOp = s.extOp := rfl
@[simp] theorem State.advance_mem : (s.advance).mem = s.mem := rfl
@[simp] theorem State.advance_ioLog : (s.advance).ioLog = s.ioLog := rfl
@[simp] theorem State.advance_env : (s.advance).env = s.env := rfl
@[simp] theorem State.advance_draw : (s.advance).draw = s.draw := rfl

/-! ### `writeByte` -/

@[simp] theorem State.writeByte_regs (a : Addr) (v : Byte) : (s.writeByte a v).regs = s.regs := rfl
@[simp] theorem State.writeByte_ip (a : Addr) (v : Byte) : (s.writeByte a v).ip = s.ip := rfl
@[simp] theorem State.writeByte_pastEnd (a : Addr) (v : Byte) : (s.writeByte a v).pastEnd = s.pastEnd := rfl
@[simp] theorem State.writeByte_flags (a : Addr) (v : Byte) : (s.writeByte a v).flags = s.flags := rfl
@[simp] theorem State.writeByte_msw (a : Addr) (v : Byte) : (s.writeByte a v).msw = s.msw := rfl
@[simp] theorem State.writeByte_cs (a : Addr) (v : Byte) : (s.writeByte a v).cs = s.cs := rfl
@[simp] theorem State.writeByte_ss (a : Addr) (v : Byte) : (s.writeByte a v).ss = s.ss := rfl
@[simp] theorem State.writeByte_ds (a : Addr) (v : Byte) : (s.writeByte a v).ds = s.ds := rfl
@[simp] theorem State.writeByte_es (a : Addr) (v : Byte) : (s.writeByte a v).es = s.es := rfl
@[simp] theorem State.writeByte_gdtr (a : Addr) (v : Byte) : (s.writeByte a v).gdtr = s.gdtr := rfl
@[simp] theorem State.writeByte_idtr (a : Addr) (v : Byte) : (s.writeByte a v).idtr = s.idtr := rfl
@[simp] theorem State.writeByte_ldtr (a : Addr) (v : Byte) : (s.writeByte a v).ldtr = s.ldtr := rfl
@[simp] theorem State.writeByte_tr (a : Addr) (v : Byte) : (s.writeByte a v).tr = s.tr := rfl
@[simp] theorem State.writeByte_nmiPending (a : Addr) (v : Byte) : (s.writeByte a v).nmiPending = s.nmiPending := rfl
@[simp] theorem State.writeByte_nmiMasked (a : Addr) (v : Byte) : (s.writeByte a v).nmiMasked = s.nmiMasked := rfl
@[simp] theorem State.writeByte_peOverrun (a : Addr) (v : Byte) : (s.writeByte a v).peOverrun = s.peOverrun := rfl
@[simp] theorem State.writeByte_intInhibit (a : Addr) (v : Byte) : (s.writeByte a v).intInhibit = s.intInhibit := rfl
@[simp] theorem State.writeByte_tfAtStart (a : Addr) (v : Byte) : (s.writeByte a v).tfAtStart = s.tfAtStart := rfl
@[simp] theorem State.writeByte_run (a : Addr) (v : Byte) : (s.writeByte a v).run = s.run := rfl
@[simp] theorem State.writeByte_cur (a : Addr) (v : Byte) : (s.writeByte a v).cur = s.cur := rfl
@[simp] theorem State.writeByte_waiting (a : Addr) (v : Byte) : (s.writeByte a v).waiting = s.waiting := rfl
@[simp] theorem State.writeByte_extOp (a : Addr) (v : Byte) : (s.writeByte a v).extOp = s.extOp := rfl
@[simp] theorem State.writeByte_ioLog (a : Addr) (v : Byte) : (s.writeByte a v).ioLog = s.ioLog := rfl
@[simp] theorem State.writeByte_env (a : Addr) (v : Byte) : (s.writeByte a v).env = s.env := rfl
@[simp] theorem State.writeByte_draw (a : Addr) (v : Byte) : (s.writeByte a v).draw = s.draw := rfl

/-! ### `writeWord` -/

@[simp] theorem State.writeWord_regs (a : Addr) (v : Word) : (s.writeWord a v).regs = s.regs := rfl
@[simp] theorem State.writeWord_ip (a : Addr) (v : Word) : (s.writeWord a v).ip = s.ip := rfl
@[simp] theorem State.writeWord_pastEnd (a : Addr) (v : Word) : (s.writeWord a v).pastEnd = s.pastEnd := rfl
@[simp] theorem State.writeWord_flags (a : Addr) (v : Word) : (s.writeWord a v).flags = s.flags := rfl
@[simp] theorem State.writeWord_msw (a : Addr) (v : Word) : (s.writeWord a v).msw = s.msw := rfl
@[simp] theorem State.writeWord_cs (a : Addr) (v : Word) : (s.writeWord a v).cs = s.cs := rfl
@[simp] theorem State.writeWord_ss (a : Addr) (v : Word) : (s.writeWord a v).ss = s.ss := rfl
@[simp] theorem State.writeWord_ds (a : Addr) (v : Word) : (s.writeWord a v).ds = s.ds := rfl
@[simp] theorem State.writeWord_es (a : Addr) (v : Word) : (s.writeWord a v).es = s.es := rfl
@[simp] theorem State.writeWord_gdtr (a : Addr) (v : Word) : (s.writeWord a v).gdtr = s.gdtr := rfl
@[simp] theorem State.writeWord_idtr (a : Addr) (v : Word) : (s.writeWord a v).idtr = s.idtr := rfl
@[simp] theorem State.writeWord_ldtr (a : Addr) (v : Word) : (s.writeWord a v).ldtr = s.ldtr := rfl
@[simp] theorem State.writeWord_tr (a : Addr) (v : Word) : (s.writeWord a v).tr = s.tr := rfl
@[simp] theorem State.writeWord_nmiPending (a : Addr) (v : Word) : (s.writeWord a v).nmiPending = s.nmiPending := rfl
@[simp] theorem State.writeWord_nmiMasked (a : Addr) (v : Word) : (s.writeWord a v).nmiMasked = s.nmiMasked := rfl
@[simp] theorem State.writeWord_peOverrun (a : Addr) (v : Word) : (s.writeWord a v).peOverrun = s.peOverrun := rfl
@[simp] theorem State.writeWord_intInhibit (a : Addr) (v : Word) : (s.writeWord a v).intInhibit = s.intInhibit := rfl
@[simp] theorem State.writeWord_tfAtStart (a : Addr) (v : Word) : (s.writeWord a v).tfAtStart = s.tfAtStart := rfl
@[simp] theorem State.writeWord_run (a : Addr) (v : Word) : (s.writeWord a v).run = s.run := rfl
@[simp] theorem State.writeWord_cur (a : Addr) (v : Word) : (s.writeWord a v).cur = s.cur := rfl
@[simp] theorem State.writeWord_waiting (a : Addr) (v : Word) : (s.writeWord a v).waiting = s.waiting := rfl
@[simp] theorem State.writeWord_extOp (a : Addr) (v : Word) : (s.writeWord a v).extOp = s.extOp := rfl
@[simp] theorem State.writeWord_ioLog (a : Addr) (v : Word) : (s.writeWord a v).ioLog = s.ioLog := rfl
@[simp] theorem State.writeWord_env (a : Addr) (v : Word) : (s.writeWord a v).env = s.env := rfl
@[simp] theorem State.writeWord_draw (a : Addr) (v : Word) : (s.writeWord a v).draw = s.draw := rfl

/-! ### `poke8` -/

@[simp] theorem State.poke8_regs (r : SReg) (o : Word) (v : Byte) : (s.poke8 r o v).regs = s.regs := rfl
@[simp] theorem State.poke8_ip (r : SReg) (o : Word) (v : Byte) : (s.poke8 r o v).ip = s.ip := rfl
@[simp] theorem State.poke8_pastEnd (r : SReg) (o : Word) (v : Byte) : (s.poke8 r o v).pastEnd = s.pastEnd := rfl
@[simp] theorem State.poke8_flags (r : SReg) (o : Word) (v : Byte) : (s.poke8 r o v).flags = s.flags := rfl
@[simp] theorem State.poke8_msw (r : SReg) (o : Word) (v : Byte) : (s.poke8 r o v).msw = s.msw := rfl
@[simp] theorem State.poke8_cs (r : SReg) (o : Word) (v : Byte) : (s.poke8 r o v).cs = s.cs := rfl
@[simp] theorem State.poke8_ss (r : SReg) (o : Word) (v : Byte) : (s.poke8 r o v).ss = s.ss := rfl
@[simp] theorem State.poke8_ds (r : SReg) (o : Word) (v : Byte) : (s.poke8 r o v).ds = s.ds := rfl
@[simp] theorem State.poke8_es (r : SReg) (o : Word) (v : Byte) : (s.poke8 r o v).es = s.es := rfl
@[simp] theorem State.poke8_gdtr (r : SReg) (o : Word) (v : Byte) : (s.poke8 r o v).gdtr = s.gdtr := rfl
@[simp] theorem State.poke8_idtr (r : SReg) (o : Word) (v : Byte) : (s.poke8 r o v).idtr = s.idtr := rfl
@[simp] theorem State.poke8_ldtr (r : SReg) (o : Word) (v : Byte) : (s.poke8 r o v).ldtr = s.ldtr := rfl
@[simp] theorem State.poke8_tr (r : SReg) (o : Word) (v : Byte) : (s.poke8 r o v).tr = s.tr := rfl
@[simp] theorem State.poke8_nmiPending (r : SReg) (o : Word) (v : Byte) : (s.poke8 r o v).nmiPending = s.nmiPending := rfl
@[simp] theorem State.poke8_nmiMasked (r : SReg) (o : Word) (v : Byte) : (s.poke8 r o v).nmiMasked = s.nmiMasked := rfl
@[simp] theorem State.poke8_peOverrun (r : SReg) (o : Word) (v : Byte) : (s.poke8 r o v).peOverrun = s.peOverrun := rfl
@[simp] theorem State.poke8_intInhibit (r : SReg) (o : Word) (v : Byte) : (s.poke8 r o v).intInhibit = s.intInhibit := rfl
@[simp] theorem State.poke8_tfAtStart (r : SReg) (o : Word) (v : Byte) : (s.poke8 r o v).tfAtStart = s.tfAtStart := rfl
@[simp] theorem State.poke8_run (r : SReg) (o : Word) (v : Byte) : (s.poke8 r o v).run = s.run := rfl
@[simp] theorem State.poke8_cur (r : SReg) (o : Word) (v : Byte) : (s.poke8 r o v).cur = s.cur := rfl
@[simp] theorem State.poke8_waiting (r : SReg) (o : Word) (v : Byte) : (s.poke8 r o v).waiting = s.waiting := rfl
@[simp] theorem State.poke8_extOp (r : SReg) (o : Word) (v : Byte) : (s.poke8 r o v).extOp = s.extOp := rfl
@[simp] theorem State.poke8_ioLog (r : SReg) (o : Word) (v : Byte) : (s.poke8 r o v).ioLog = s.ioLog := rfl
@[simp] theorem State.poke8_env (r : SReg) (o : Word) (v : Byte) : (s.poke8 r o v).env = s.env := rfl
@[simp] theorem State.poke8_draw (r : SReg) (o : Word) (v : Byte) : (s.poke8 r o v).draw = s.draw := rfl

/-! ### `poke16` -/

@[simp] theorem State.poke16_regs (r : SReg) (o : Word) (v : Word) : (s.poke16 r o v).regs = s.regs := rfl
@[simp] theorem State.poke16_ip (r : SReg) (o : Word) (v : Word) : (s.poke16 r o v).ip = s.ip := rfl
@[simp] theorem State.poke16_pastEnd (r : SReg) (o : Word) (v : Word) : (s.poke16 r o v).pastEnd = s.pastEnd := rfl
@[simp] theorem State.poke16_flags (r : SReg) (o : Word) (v : Word) : (s.poke16 r o v).flags = s.flags := rfl
@[simp] theorem State.poke16_msw (r : SReg) (o : Word) (v : Word) : (s.poke16 r o v).msw = s.msw := rfl
@[simp] theorem State.poke16_cs (r : SReg) (o : Word) (v : Word) : (s.poke16 r o v).cs = s.cs := rfl
@[simp] theorem State.poke16_ss (r : SReg) (o : Word) (v : Word) : (s.poke16 r o v).ss = s.ss := rfl
@[simp] theorem State.poke16_ds (r : SReg) (o : Word) (v : Word) : (s.poke16 r o v).ds = s.ds := rfl
@[simp] theorem State.poke16_es (r : SReg) (o : Word) (v : Word) : (s.poke16 r o v).es = s.es := rfl
@[simp] theorem State.poke16_gdtr (r : SReg) (o : Word) (v : Word) : (s.poke16 r o v).gdtr = s.gdtr := rfl
@[simp] theorem State.poke16_idtr (r : SReg) (o : Word) (v : Word) : (s.poke16 r o v).idtr = s.idtr := rfl
@[simp] theorem State.poke16_ldtr (r : SReg) (o : Word) (v : Word) : (s.poke16 r o v).ldtr = s.ldtr := rfl
@[simp] theorem State.poke16_tr (r : SReg) (o : Word) (v : Word) : (s.poke16 r o v).tr = s.tr := rfl
@[simp] theorem State.poke16_nmiPending (r : SReg) (o : Word) (v : Word) : (s.poke16 r o v).nmiPending = s.nmiPending := rfl
@[simp] theorem State.poke16_nmiMasked (r : SReg) (o : Word) (v : Word) : (s.poke16 r o v).nmiMasked = s.nmiMasked := rfl
@[simp] theorem State.poke16_peOverrun (r : SReg) (o : Word) (v : Word) : (s.poke16 r o v).peOverrun = s.peOverrun := rfl
@[simp] theorem State.poke16_intInhibit (r : SReg) (o : Word) (v : Word) : (s.poke16 r o v).intInhibit = s.intInhibit := rfl
@[simp] theorem State.poke16_tfAtStart (r : SReg) (o : Word) (v : Word) : (s.poke16 r o v).tfAtStart = s.tfAtStart := rfl
@[simp] theorem State.poke16_run (r : SReg) (o : Word) (v : Word) : (s.poke16 r o v).run = s.run := rfl
@[simp] theorem State.poke16_cur (r : SReg) (o : Word) (v : Word) : (s.poke16 r o v).cur = s.cur := rfl
@[simp] theorem State.poke16_waiting (r : SReg) (o : Word) (v : Word) : (s.poke16 r o v).waiting = s.waiting := rfl
@[simp] theorem State.poke16_extOp (r : SReg) (o : Word) (v : Word) : (s.poke16 r o v).extOp = s.extOp := rfl
@[simp] theorem State.poke16_ioLog (r : SReg) (o : Word) (v : Word) : (s.poke16 r o v).ioLog = s.ioLog := rfl
@[simp] theorem State.poke16_env (r : SReg) (o : Word) (v : Word) : (s.poke16 r o v).env = s.env := rfl
@[simp] theorem State.poke16_draw (r : SReg) (o : Word) (v : Word) : (s.poke16 r o v).draw = s.draw := rfl

/-! ### `push` -/

@[simp] theorem State.push_regs (v : Word) : (s.push v).regs = s.regs.set .sp (s.spDown 2) := rfl
@[simp] theorem State.push_ip (v : Word) : (s.push v).ip = s.ip := rfl
@[simp] theorem State.push_pastEnd (v : Word) : (s.push v).pastEnd = s.pastEnd := rfl
@[simp] theorem State.push_flags (v : Word) : (s.push v).flags = s.flags := rfl
@[simp] theorem State.push_msw (v : Word) : (s.push v).msw = s.msw := rfl
@[simp] theorem State.push_cs (v : Word) : (s.push v).cs = s.cs := rfl
@[simp] theorem State.push_ss (v : Word) : (s.push v).ss = s.ss := rfl
@[simp] theorem State.push_ds (v : Word) : (s.push v).ds = s.ds := rfl
@[simp] theorem State.push_es (v : Word) : (s.push v).es = s.es := rfl
@[simp] theorem State.push_gdtr (v : Word) : (s.push v).gdtr = s.gdtr := rfl
@[simp] theorem State.push_idtr (v : Word) : (s.push v).idtr = s.idtr := rfl
@[simp] theorem State.push_ldtr (v : Word) : (s.push v).ldtr = s.ldtr := rfl
@[simp] theorem State.push_tr (v : Word) : (s.push v).tr = s.tr := rfl
@[simp] theorem State.push_nmiPending (v : Word) : (s.push v).nmiPending = s.nmiPending := rfl
@[simp] theorem State.push_nmiMasked (v : Word) : (s.push v).nmiMasked = s.nmiMasked := rfl
@[simp] theorem State.push_peOverrun (v : Word) : (s.push v).peOverrun = s.peOverrun := rfl
@[simp] theorem State.push_intInhibit (v : Word) : (s.push v).intInhibit = s.intInhibit := rfl
@[simp] theorem State.push_tfAtStart (v : Word) : (s.push v).tfAtStart = s.tfAtStart := rfl
@[simp] theorem State.push_run (v : Word) : (s.push v).run = s.run := rfl
@[simp] theorem State.push_cur (v : Word) : (s.push v).cur = s.cur := rfl
@[simp] theorem State.push_waiting (v : Word) : (s.push v).waiting = s.waiting := rfl
@[simp] theorem State.push_extOp (v : Word) : (s.push v).extOp = s.extOp := rfl
@[simp] theorem State.push_ioLog (v : Word) : (s.push v).ioLog = s.ioLog := rfl
@[simp] theorem State.push_env (v : Word) : (s.push v).env = s.env := rfl
@[simp] theorem State.push_draw (v : Word) : (s.push v).draw = s.draw := rfl

/-! ### `popBytes` -/

@[simp] theorem State.popBytes_regs (k : Word) : (s.popBytes k).regs = s.regs.set .sp (s.reg .sp + k) := rfl
@[simp] theorem State.popBytes_ip (k : Word) : (s.popBytes k).ip = s.ip := rfl
@[simp] theorem State.popBytes_pastEnd (k : Word) : (s.popBytes k).pastEnd = s.pastEnd := rfl
@[simp] theorem State.popBytes_flags (k : Word) : (s.popBytes k).flags = s.flags := rfl
@[simp] theorem State.popBytes_msw (k : Word) : (s.popBytes k).msw = s.msw := rfl
@[simp] theorem State.popBytes_cs (k : Word) : (s.popBytes k).cs = s.cs := rfl
@[simp] theorem State.popBytes_ss (k : Word) : (s.popBytes k).ss = s.ss := rfl
@[simp] theorem State.popBytes_ds (k : Word) : (s.popBytes k).ds = s.ds := rfl
@[simp] theorem State.popBytes_es (k : Word) : (s.popBytes k).es = s.es := rfl
@[simp] theorem State.popBytes_gdtr (k : Word) : (s.popBytes k).gdtr = s.gdtr := rfl
@[simp] theorem State.popBytes_idtr (k : Word) : (s.popBytes k).idtr = s.idtr := rfl
@[simp] theorem State.popBytes_ldtr (k : Word) : (s.popBytes k).ldtr = s.ldtr := rfl
@[simp] theorem State.popBytes_tr (k : Word) : (s.popBytes k).tr = s.tr := rfl
@[simp] theorem State.popBytes_nmiPending (k : Word) : (s.popBytes k).nmiPending = s.nmiPending := rfl
@[simp] theorem State.popBytes_nmiMasked (k : Word) : (s.popBytes k).nmiMasked = s.nmiMasked := rfl
@[simp] theorem State.popBytes_peOverrun (k : Word) : (s.popBytes k).peOverrun = s.peOverrun := rfl
@[simp] theorem State.popBytes_intInhibit (k : Word) : (s.popBytes k).intInhibit = s.intInhibit := rfl
@[simp] theorem State.popBytes_tfAtStart (k : Word) : (s.popBytes k).tfAtStart = s.tfAtStart := rfl
@[simp] theorem State.popBytes_run (k : Word) : (s.popBytes k).run = s.run := rfl
@[simp] theorem State.popBytes_cur (k : Word) : (s.popBytes k).cur = s.cur := rfl
@[simp] theorem State.popBytes_waiting (k : Word) : (s.popBytes k).waiting = s.waiting := rfl
@[simp] theorem State.popBytes_extOp (k : Word) : (s.popBytes k).extOp = s.extOp := rfl
@[simp] theorem State.popBytes_mem (k : Word) : (s.popBytes k).mem = s.mem := rfl
@[simp] theorem State.popBytes_ioLog (k : Word) : (s.popBytes k).ioLog = s.ioLog := rfl
@[simp] theorem State.popBytes_env (k : Word) : (s.popBytes k).env = s.env := rfl
@[simp] theorem State.popBytes_draw (k : Word) : (s.popBytes k).draw = s.draw := rfl

/-! ### `logIo` -/

@[simp] theorem State.logIo_regs (c : IoCycle) : (s.logIo c).regs = s.regs := rfl
@[simp] theorem State.logIo_ip (c : IoCycle) : (s.logIo c).ip = s.ip := rfl
@[simp] theorem State.logIo_pastEnd (c : IoCycle) : (s.logIo c).pastEnd = s.pastEnd := rfl
@[simp] theorem State.logIo_flags (c : IoCycle) : (s.logIo c).flags = s.flags := rfl
@[simp] theorem State.logIo_msw (c : IoCycle) : (s.logIo c).msw = s.msw := rfl
@[simp] theorem State.logIo_cs (c : IoCycle) : (s.logIo c).cs = s.cs := rfl
@[simp] theorem State.logIo_ss (c : IoCycle) : (s.logIo c).ss = s.ss := rfl
@[simp] theorem State.logIo_ds (c : IoCycle) : (s.logIo c).ds = s.ds := rfl
@[simp] theorem State.logIo_es (c : IoCycle) : (s.logIo c).es = s.es := rfl
@[simp] theorem State.logIo_gdtr (c : IoCycle) : (s.logIo c).gdtr = s.gdtr := rfl
@[simp] theorem State.logIo_idtr (c : IoCycle) : (s.logIo c).idtr = s.idtr := rfl
@[simp] theorem State.logIo_ldtr (c : IoCycle) : (s.logIo c).ldtr = s.ldtr := rfl
@[simp] theorem State.logIo_tr (c : IoCycle) : (s.logIo c).tr = s.tr := rfl
@[simp] theorem State.logIo_nmiPending (c : IoCycle) : (s.logIo c).nmiPending = s.nmiPending := rfl
@[simp] theorem State.logIo_nmiMasked (c : IoCycle) : (s.logIo c).nmiMasked = s.nmiMasked := rfl
@[simp] theorem State.logIo_peOverrun (c : IoCycle) : (s.logIo c).peOverrun = s.peOverrun := rfl
@[simp] theorem State.logIo_intInhibit (c : IoCycle) : (s.logIo c).intInhibit = s.intInhibit := rfl
@[simp] theorem State.logIo_tfAtStart (c : IoCycle) : (s.logIo c).tfAtStart = s.tfAtStart := rfl
@[simp] theorem State.logIo_run (c : IoCycle) : (s.logIo c).run = s.run := rfl
@[simp] theorem State.logIo_cur (c : IoCycle) : (s.logIo c).cur = s.cur := rfl
@[simp] theorem State.logIo_waiting (c : IoCycle) : (s.logIo c).waiting = s.waiting := rfl
@[simp] theorem State.logIo_extOp (c : IoCycle) : (s.logIo c).extOp = s.extOp := rfl
@[simp] theorem State.logIo_mem (c : IoCycle) : (s.logIo c).mem = s.mem := rfl
@[simp] theorem State.logIo_ioLog (c : IoCycle) : (s.logIo c).ioLog = c :: s.ioLog := rfl
@[simp] theorem State.logIo_env (c : IoCycle) : (s.logIo c).env = s.env := rfl
@[simp] theorem State.logIo_draw (c : IoCycle) : (s.logIo c).draw = s.draw := rfl

/-! ### `inhibit` -/

@[simp] theorem State.inhibit_regs (i : Inhibit) : (s.inhibit i).regs = s.regs := rfl
@[simp] theorem State.inhibit_ip (i : Inhibit) : (s.inhibit i).ip = s.ip := rfl
@[simp] theorem State.inhibit_pastEnd (i : Inhibit) : (s.inhibit i).pastEnd = s.pastEnd := rfl
@[simp] theorem State.inhibit_flags (i : Inhibit) : (s.inhibit i).flags = s.flags := rfl
@[simp] theorem State.inhibit_msw (i : Inhibit) : (s.inhibit i).msw = s.msw := rfl
@[simp] theorem State.inhibit_cs (i : Inhibit) : (s.inhibit i).cs = s.cs := rfl
@[simp] theorem State.inhibit_ss (i : Inhibit) : (s.inhibit i).ss = s.ss := rfl
@[simp] theorem State.inhibit_ds (i : Inhibit) : (s.inhibit i).ds = s.ds := rfl
@[simp] theorem State.inhibit_es (i : Inhibit) : (s.inhibit i).es = s.es := rfl
@[simp] theorem State.inhibit_gdtr (i : Inhibit) : (s.inhibit i).gdtr = s.gdtr := rfl
@[simp] theorem State.inhibit_idtr (i : Inhibit) : (s.inhibit i).idtr = s.idtr := rfl
@[simp] theorem State.inhibit_ldtr (i : Inhibit) : (s.inhibit i).ldtr = s.ldtr := rfl
@[simp] theorem State.inhibit_tr (i : Inhibit) : (s.inhibit i).tr = s.tr := rfl
@[simp] theorem State.inhibit_nmiPending (i : Inhibit) : (s.inhibit i).nmiPending = s.nmiPending := rfl
@[simp] theorem State.inhibit_nmiMasked (i : Inhibit) : (s.inhibit i).nmiMasked = s.nmiMasked := rfl
@[simp] theorem State.inhibit_peOverrun (i : Inhibit) : (s.inhibit i).peOverrun = s.peOverrun := rfl
@[simp] theorem State.inhibit_intInhibit (i : Inhibit) : (s.inhibit i).intInhibit = i := rfl
@[simp] theorem State.inhibit_tfAtStart (i : Inhibit) : (s.inhibit i).tfAtStart = s.tfAtStart := rfl
@[simp] theorem State.inhibit_run (i : Inhibit) : (s.inhibit i).run = s.run := rfl
@[simp] theorem State.inhibit_cur (i : Inhibit) : (s.inhibit i).cur = s.cur := rfl
@[simp] theorem State.inhibit_waiting (i : Inhibit) : (s.inhibit i).waiting = s.waiting := rfl
@[simp] theorem State.inhibit_extOp (i : Inhibit) : (s.inhibit i).extOp = s.extOp := rfl
@[simp] theorem State.inhibit_mem (i : Inhibit) : (s.inhibit i).mem = s.mem := rfl
@[simp] theorem State.inhibit_ioLog (i : Inhibit) : (s.inhibit i).ioLog = s.ioLog := rfl
@[simp] theorem State.inhibit_env (i : Inhibit) : (s.inhibit i).env = s.env := rfl
@[simp] theorem State.inhibit_draw (i : Inhibit) : (s.inhibit i).draw = s.draw := rfl

/-! ### `enterShutdown` -/

@[simp] theorem State.enterShutdown_regs : (s.enterShutdown).regs = s.regs := rfl
@[simp] theorem State.enterShutdown_ip : (s.enterShutdown).ip = s.ip := rfl
@[simp] theorem State.enterShutdown_pastEnd : (s.enterShutdown).pastEnd = s.pastEnd := rfl
@[simp] theorem State.enterShutdown_flags : (s.enterShutdown).flags = s.flags := rfl
@[simp] theorem State.enterShutdown_msw : (s.enterShutdown).msw = s.msw := rfl
@[simp] theorem State.enterShutdown_cs : (s.enterShutdown).cs = s.cs := rfl
@[simp] theorem State.enterShutdown_ss : (s.enterShutdown).ss = s.ss := rfl
@[simp] theorem State.enterShutdown_ds : (s.enterShutdown).ds = s.ds := rfl
@[simp] theorem State.enterShutdown_es : (s.enterShutdown).es = s.es := rfl
@[simp] theorem State.enterShutdown_gdtr : (s.enterShutdown).gdtr = s.gdtr := rfl
@[simp] theorem State.enterShutdown_idtr : (s.enterShutdown).idtr = s.idtr := rfl
@[simp] theorem State.enterShutdown_ldtr : (s.enterShutdown).ldtr = s.ldtr := rfl
@[simp] theorem State.enterShutdown_tr : (s.enterShutdown).tr = s.tr := rfl
@[simp] theorem State.enterShutdown_nmiPending : (s.enterShutdown).nmiPending = s.nmiPending := rfl
@[simp] theorem State.enterShutdown_nmiMasked : (s.enterShutdown).nmiMasked = s.nmiMasked := rfl
@[simp] theorem State.enterShutdown_peOverrun : (s.enterShutdown).peOverrun = s.peOverrun := rfl
@[simp] theorem State.enterShutdown_intInhibit : (s.enterShutdown).intInhibit = s.intInhibit := rfl
@[simp] theorem State.enterShutdown_tfAtStart : (s.enterShutdown).tfAtStart = s.tfAtStart := rfl
@[simp] theorem State.enterShutdown_run : (s.enterShutdown).run = .shutdown := rfl
@[simp] theorem State.enterShutdown_cur : (s.enterShutdown).cur = s.cur := rfl
@[simp] theorem State.enterShutdown_waiting : (s.enterShutdown).waiting = s.waiting := rfl
@[simp] theorem State.enterShutdown_extOp : (s.enterShutdown).extOp = s.extOp := rfl
@[simp] theorem State.enterShutdown_mem : (s.enterShutdown).mem = s.mem := rfl
@[simp] theorem State.enterShutdown_ioLog : (s.enterShutdown).ioLog = s.ioLog := rfl
@[simp] theorem State.enterShutdown_env : (s.enterShutdown).env = s.env := rfl
@[simp] theorem State.enterShutdown_draw : (s.enterShutdown).draw = s.draw := rfl

/-! ### `resume` -/

@[simp] theorem State.resume_regs : (s.resume).regs = s.regs := rfl
@[simp] theorem State.resume_ip : (s.resume).ip = s.ip := rfl
@[simp] theorem State.resume_pastEnd : (s.resume).pastEnd = s.pastEnd := rfl
@[simp] theorem State.resume_flags : (s.resume).flags = s.flags := rfl
@[simp] theorem State.resume_msw : (s.resume).msw = s.msw := rfl
@[simp] theorem State.resume_cs : (s.resume).cs = s.cs := rfl
@[simp] theorem State.resume_ss : (s.resume).ss = s.ss := rfl
@[simp] theorem State.resume_ds : (s.resume).ds = s.ds := rfl
@[simp] theorem State.resume_es : (s.resume).es = s.es := rfl
@[simp] theorem State.resume_gdtr : (s.resume).gdtr = s.gdtr := rfl
@[simp] theorem State.resume_idtr : (s.resume).idtr = s.idtr := rfl
@[simp] theorem State.resume_ldtr : (s.resume).ldtr = s.ldtr := rfl
@[simp] theorem State.resume_tr : (s.resume).tr = s.tr := rfl
@[simp] theorem State.resume_nmiPending : (s.resume).nmiPending = s.nmiPending := rfl
@[simp] theorem State.resume_nmiMasked : (s.resume).nmiMasked = s.nmiMasked := rfl
@[simp] theorem State.resume_peOverrun : (s.resume).peOverrun = s.peOverrun := rfl
@[simp] theorem State.resume_intInhibit : (s.resume).intInhibit = s.intInhibit := rfl
@[simp] theorem State.resume_tfAtStart : (s.resume).tfAtStart = s.tfAtStart := rfl
@[simp] theorem State.resume_run : (s.resume).run = .running := rfl
@[simp] theorem State.resume_cur : (s.resume).cur = s.cur := rfl
@[simp] theorem State.resume_waiting : (s.resume).waiting = s.waiting := rfl
@[simp] theorem State.resume_extOp : (s.resume).extOp = s.extOp := rfl
@[simp] theorem State.resume_mem : (s.resume).mem = s.mem := rfl
@[simp] theorem State.resume_ioLog : (s.resume).ioLog = s.ioLog := rfl
@[simp] theorem State.resume_env : (s.resume).env = s.env := rfl
@[simp] theorem State.resume_draw : (s.resume).draw = s.draw := rfl

/-! ### `unmaskNmi` -/

@[simp] theorem State.unmaskNmi_regs : (s.unmaskNmi).regs = s.regs := rfl
@[simp] theorem State.unmaskNmi_ip : (s.unmaskNmi).ip = s.ip := rfl
@[simp] theorem State.unmaskNmi_pastEnd : (s.unmaskNmi).pastEnd = s.pastEnd := rfl
@[simp] theorem State.unmaskNmi_flags : (s.unmaskNmi).flags = s.flags := rfl
@[simp] theorem State.unmaskNmi_msw : (s.unmaskNmi).msw = s.msw := rfl
@[simp] theorem State.unmaskNmi_cs : (s.unmaskNmi).cs = s.cs := rfl
@[simp] theorem State.unmaskNmi_ss : (s.unmaskNmi).ss = s.ss := rfl
@[simp] theorem State.unmaskNmi_ds : (s.unmaskNmi).ds = s.ds := rfl
@[simp] theorem State.unmaskNmi_es : (s.unmaskNmi).es = s.es := rfl
@[simp] theorem State.unmaskNmi_gdtr : (s.unmaskNmi).gdtr = s.gdtr := rfl
@[simp] theorem State.unmaskNmi_idtr : (s.unmaskNmi).idtr = s.idtr := rfl
@[simp] theorem State.unmaskNmi_ldtr : (s.unmaskNmi).ldtr = s.ldtr := rfl
@[simp] theorem State.unmaskNmi_tr : (s.unmaskNmi).tr = s.tr := rfl
@[simp] theorem State.unmaskNmi_nmiPending : (s.unmaskNmi).nmiPending = s.nmiPending := rfl
@[simp] theorem State.unmaskNmi_nmiMasked : (s.unmaskNmi).nmiMasked = false := rfl
@[simp] theorem State.unmaskNmi_peOverrun : (s.unmaskNmi).peOverrun = s.peOverrun := rfl
@[simp] theorem State.unmaskNmi_intInhibit : (s.unmaskNmi).intInhibit = s.intInhibit := rfl
@[simp] theorem State.unmaskNmi_tfAtStart : (s.unmaskNmi).tfAtStart = s.tfAtStart := rfl
@[simp] theorem State.unmaskNmi_run : (s.unmaskNmi).run = s.run := rfl
@[simp] theorem State.unmaskNmi_cur : (s.unmaskNmi).cur = s.cur := rfl
@[simp] theorem State.unmaskNmi_waiting : (s.unmaskNmi).waiting = s.waiting := rfl
@[simp] theorem State.unmaskNmi_extOp : (s.unmaskNmi).extOp = s.extOp := rfl
@[simp] theorem State.unmaskNmi_mem : (s.unmaskNmi).mem = s.mem := rfl
@[simp] theorem State.unmaskNmi_ioLog : (s.unmaskNmi).ioLog = s.ioLog := rfl
@[simp] theorem State.unmaskNmi_env : (s.unmaskNmi).env = s.env := rfl
@[simp] theorem State.unmaskNmi_draw : (s.unmaskNmi).draw = s.draw := rfl

/-! ### `consumed` -/

@[simp] theorem State.consumed_regs (n : Nat) : (s.consumed n).regs = s.regs := rfl
@[simp] theorem State.consumed_ip (n : Nat) : (s.consumed n).ip = s.ip := rfl
@[simp] theorem State.consumed_pastEnd (n : Nat) : (s.consumed n).pastEnd = s.pastEnd := rfl
@[simp] theorem State.consumed_flags (n : Nat) : (s.consumed n).flags = s.flags := rfl
@[simp] theorem State.consumed_msw (n : Nat) : (s.consumed n).msw = s.msw := rfl
@[simp] theorem State.consumed_cs (n : Nat) : (s.consumed n).cs = s.cs := rfl
@[simp] theorem State.consumed_ss (n : Nat) : (s.consumed n).ss = s.ss := rfl
@[simp] theorem State.consumed_ds (n : Nat) : (s.consumed n).ds = s.ds := rfl
@[simp] theorem State.consumed_es (n : Nat) : (s.consumed n).es = s.es := rfl
@[simp] theorem State.consumed_gdtr (n : Nat) : (s.consumed n).gdtr = s.gdtr := rfl
@[simp] theorem State.consumed_idtr (n : Nat) : (s.consumed n).idtr = s.idtr := rfl
@[simp] theorem State.consumed_ldtr (n : Nat) : (s.consumed n).ldtr = s.ldtr := rfl
@[simp] theorem State.consumed_tr (n : Nat) : (s.consumed n).tr = s.tr := rfl
@[simp] theorem State.consumed_nmiPending (n : Nat) : (s.consumed n).nmiPending = s.nmiPending := rfl
@[simp] theorem State.consumed_nmiMasked (n : Nat) : (s.consumed n).nmiMasked = s.nmiMasked := rfl
@[simp] theorem State.consumed_peOverrun (n : Nat) : (s.consumed n).peOverrun = s.peOverrun := rfl
@[simp] theorem State.consumed_intInhibit (n : Nat) : (s.consumed n).intInhibit = s.intInhibit := rfl
@[simp] theorem State.consumed_tfAtStart (n : Nat) : (s.consumed n).tfAtStart = s.tfAtStart := rfl
@[simp] theorem State.consumed_run (n : Nat) : (s.consumed n).run = s.run := rfl
@[simp] theorem State.consumed_cur (n : Nat) : (s.consumed n).cur = { s.cur with len := n } := rfl
@[simp] theorem State.consumed_waiting (n : Nat) : (s.consumed n).waiting = s.waiting := rfl
@[simp] theorem State.consumed_extOp (n : Nat) : (s.consumed n).extOp = s.extOp := rfl
@[simp] theorem State.consumed_mem (n : Nat) : (s.consumed n).mem = s.mem := rfl
@[simp] theorem State.consumed_ioLog (n : Nat) : (s.consumed n).ioLog = s.ioLog := rfl
@[simp] theorem State.consumed_env (n : Nat) : (s.consumed n).env = s.env := rfl
@[simp] theorem State.consumed_draw (n : Nat) : (s.consumed n).draw = s.draw := rfl

/-! ### `setExt` -/

@[simp] theorem State.setExt_regs (x : Ext) : (s.setExt x).regs = s.regs := rfl
@[simp] theorem State.setExt_ip (x : Ext) : (s.setExt x).ip = s.ip := rfl
@[simp] theorem State.setExt_pastEnd (x : Ext) : (s.setExt x).pastEnd = s.pastEnd := rfl
@[simp] theorem State.setExt_flags (x : Ext) : (s.setExt x).flags = s.flags := rfl
@[simp] theorem State.setExt_msw (x : Ext) : (s.setExt x).msw = s.msw := rfl
@[simp] theorem State.setExt_cs (x : Ext) : (s.setExt x).cs = s.cs := rfl
@[simp] theorem State.setExt_ss (x : Ext) : (s.setExt x).ss = s.ss := rfl
@[simp] theorem State.setExt_ds (x : Ext) : (s.setExt x).ds = s.ds := rfl
@[simp] theorem State.setExt_es (x : Ext) : (s.setExt x).es = s.es := rfl
@[simp] theorem State.setExt_gdtr (x : Ext) : (s.setExt x).gdtr = s.gdtr := rfl
@[simp] theorem State.setExt_idtr (x : Ext) : (s.setExt x).idtr = s.idtr := rfl
@[simp] theorem State.setExt_ldtr (x : Ext) : (s.setExt x).ldtr = s.ldtr := rfl
@[simp] theorem State.setExt_tr (x : Ext) : (s.setExt x).tr = s.tr := rfl
@[simp] theorem State.setExt_nmiPending (x : Ext) : (s.setExt x).nmiPending = s.nmiPending := rfl
@[simp] theorem State.setExt_nmiMasked (x : Ext) : (s.setExt x).nmiMasked = s.nmiMasked := rfl
@[simp] theorem State.setExt_peOverrun (x : Ext) : (s.setExt x).peOverrun = s.peOverrun := rfl
@[simp] theorem State.setExt_intInhibit (x : Ext) : (s.setExt x).intInhibit = s.intInhibit := rfl
@[simp] theorem State.setExt_tfAtStart (x : Ext) : (s.setExt x).tfAtStart = s.tfAtStart := rfl
@[simp] theorem State.setExt_run (x : Ext) : (s.setExt x).run = s.run := rfl
@[simp] theorem State.setExt_cur (x : Ext) : (s.setExt x).cur = s.cur := rfl
@[simp] theorem State.setExt_waiting (x : Ext) : (s.setExt x).waiting = s.waiting := rfl
@[simp] theorem State.setExt_extOp (x : Ext) : (s.setExt x).extOp = s.extOp := rfl
@[simp] theorem State.setExt_mem (x : Ext) : (s.setExt x).mem = s.mem := rfl
@[simp] theorem State.setExt_ioLog (x : Ext) : (s.setExt x).ioLog = s.ioLog := rfl
@[simp] theorem State.setExt_env (x : Ext) : (s.setExt x).env = { s.env with ext := x } := rfl
@[simp] theorem State.setExt_draw (x : Ext) : (s.setExt x).draw = s.draw := rfl

/-! ### `setAccessed` -/

@[simp] theorem State.setAccessed_regs (sel : Word) (d : Desc) : (s.setAccessed sel d).regs = s.regs := rfl
@[simp] theorem State.setAccessed_ip (sel : Word) (d : Desc) : (s.setAccessed sel d).ip = s.ip := rfl
@[simp] theorem State.setAccessed_pastEnd (sel : Word) (d : Desc) : (s.setAccessed sel d).pastEnd = s.pastEnd := rfl
@[simp] theorem State.setAccessed_flags (sel : Word) (d : Desc) : (s.setAccessed sel d).flags = s.flags := rfl
@[simp] theorem State.setAccessed_msw (sel : Word) (d : Desc) : (s.setAccessed sel d).msw = s.msw := rfl
@[simp] theorem State.setAccessed_cs (sel : Word) (d : Desc) : (s.setAccessed sel d).cs = s.cs := rfl
@[simp] theorem State.setAccessed_ss (sel : Word) (d : Desc) : (s.setAccessed sel d).ss = s.ss := rfl
@[simp] theorem State.setAccessed_ds (sel : Word) (d : Desc) : (s.setAccessed sel d).ds = s.ds := rfl
@[simp] theorem State.setAccessed_es (sel : Word) (d : Desc) : (s.setAccessed sel d).es = s.es := rfl
@[simp] theorem State.setAccessed_gdtr (sel : Word) (d : Desc) : (s.setAccessed sel d).gdtr = s.gdtr := rfl
@[simp] theorem State.setAccessed_idtr (sel : Word) (d : Desc) : (s.setAccessed sel d).idtr = s.idtr := rfl
@[simp] theorem State.setAccessed_ldtr (sel : Word) (d : Desc) : (s.setAccessed sel d).ldtr = s.ldtr := rfl
@[simp] theorem State.setAccessed_tr (sel : Word) (d : Desc) : (s.setAccessed sel d).tr = s.tr := rfl
@[simp] theorem State.setAccessed_nmiPending (sel : Word) (d : Desc) : (s.setAccessed sel d).nmiPending = s.nmiPending := rfl
@[simp] theorem State.setAccessed_nmiMasked (sel : Word) (d : Desc) : (s.setAccessed sel d).nmiMasked = s.nmiMasked := rfl
@[simp] theorem State.setAccessed_peOverrun (sel : Word) (d : Desc) : (s.setAccessed sel d).peOverrun = s.peOverrun := rfl
@[simp] theorem State.setAccessed_intInhibit (sel : Word) (d : Desc) : (s.setAccessed sel d).intInhibit = s.intInhibit := rfl
@[simp] theorem State.setAccessed_tfAtStart (sel : Word) (d : Desc) : (s.setAccessed sel d).tfAtStart = s.tfAtStart := rfl
@[simp] theorem State.setAccessed_run (sel : Word) (d : Desc) : (s.setAccessed sel d).run = s.run := rfl
@[simp] theorem State.setAccessed_cur (sel : Word) (d : Desc) : (s.setAccessed sel d).cur = s.cur := rfl
@[simp] theorem State.setAccessed_waiting (sel : Word) (d : Desc) : (s.setAccessed sel d).waiting = s.waiting := rfl
@[simp] theorem State.setAccessed_extOp (sel : Word) (d : Desc) : (s.setAccessed sel d).extOp = s.extOp := rfl
@[simp] theorem State.setAccessed_ioLog (sel : Word) (d : Desc) : (s.setAccessed sel d).ioLog = s.ioLog := rfl
@[simp] theorem State.setAccessed_env (sel : Word) (d : Desc) : (s.setAccessed sel d).env = s.env := rfl
@[simp] theorem State.setAccessed_draw (sel : Word) (d : Desc) : (s.setAccessed sel d).draw = s.draw := rfl

/-! ### `setSeg`, which picks one of four fields -/

@[simp] theorem State.setSeg_regs (r : SReg) (g : Seg) : (s.setSeg r g).regs = s.regs := by cases r <;> rfl
@[simp] theorem State.setSeg_ip (r : SReg) (g : Seg) : (s.setSeg r g).ip = s.ip := by cases r <;> rfl
@[simp] theorem State.setSeg_pastEnd (r : SReg) (g : Seg) : (s.setSeg r g).pastEnd = s.pastEnd := by cases r <;> rfl
@[simp] theorem State.setSeg_flags (r : SReg) (g : Seg) : (s.setSeg r g).flags = s.flags := by cases r <;> rfl
@[simp] theorem State.setSeg_msw (r : SReg) (g : Seg) : (s.setSeg r g).msw = s.msw := by cases r <;> rfl
@[simp] theorem State.setSeg_gdtr (r : SReg) (g : Seg) : (s.setSeg r g).gdtr = s.gdtr := by cases r <;> rfl
@[simp] theorem State.setSeg_idtr (r : SReg) (g : Seg) : (s.setSeg r g).idtr = s.idtr := by cases r <;> rfl
@[simp] theorem State.setSeg_ldtr (r : SReg) (g : Seg) : (s.setSeg r g).ldtr = s.ldtr := by cases r <;> rfl
@[simp] theorem State.setSeg_tr (r : SReg) (g : Seg) : (s.setSeg r g).tr = s.tr := by cases r <;> rfl
@[simp] theorem State.setSeg_nmiPending (r : SReg) (g : Seg) : (s.setSeg r g).nmiPending = s.nmiPending := by cases r <;> rfl
@[simp] theorem State.setSeg_nmiMasked (r : SReg) (g : Seg) : (s.setSeg r g).nmiMasked = s.nmiMasked := by cases r <;> rfl
@[simp] theorem State.setSeg_peOverrun (r : SReg) (g : Seg) : (s.setSeg r g).peOverrun = s.peOverrun := by cases r <;> rfl
@[simp] theorem State.setSeg_intInhibit (r : SReg) (g : Seg) : (s.setSeg r g).intInhibit = s.intInhibit := by cases r <;> rfl
@[simp] theorem State.setSeg_tfAtStart (r : SReg) (g : Seg) : (s.setSeg r g).tfAtStart = s.tfAtStart := by cases r <;> rfl
@[simp] theorem State.setSeg_run (r : SReg) (g : Seg) : (s.setSeg r g).run = s.run := by cases r <;> rfl
@[simp] theorem State.setSeg_cur (r : SReg) (g : Seg) : (s.setSeg r g).cur = s.cur := by cases r <;> rfl
@[simp] theorem State.setSeg_waiting (r : SReg) (g : Seg) : (s.setSeg r g).waiting = s.waiting := by cases r <;> rfl
@[simp] theorem State.setSeg_extOp (r : SReg) (g : Seg) : (s.setSeg r g).extOp = s.extOp := by cases r <;> rfl
@[simp] theorem State.setSeg_mem (r : SReg) (g : Seg) : (s.setSeg r g).mem = s.mem := by cases r <;> rfl
@[simp] theorem State.setSeg_ioLog (r : SReg) (g : Seg) : (s.setSeg r g).ioLog = s.ioLog := by cases r <;> rfl
@[simp] theorem State.setSeg_env (r : SReg) (g : Seg) : (s.setSeg r g).env = s.env := by cases r <;> rfl
@[simp] theorem State.setSeg_draw (r : SReg) (g : Seg) : (s.setSeg r g).draw = s.draw := by cases r <;> rfl
@[simp] theorem State.setSeg_cs_cs (g : Seg) : (s.setSeg .cs g).cs = g := rfl
@[simp] theorem State.setSeg_cs_ss (g : Seg) : (s.setSeg .cs g).ss = s.ss := rfl
@[simp] theorem State.setSeg_cs_ds (g : Seg) : (s.setSeg .cs g).ds = s.ds := rfl
@[simp] theorem State.setSeg_cs_es (g : Seg) : (s.setSeg .cs g).es = s.es := rfl
@[simp] theorem State.setSeg_ss_cs (g : Seg) : (s.setSeg .ss g).cs = s.cs := rfl
@[simp] theorem State.setSeg_ss_ss (g : Seg) : (s.setSeg .ss g).ss = g := rfl
@[simp] theorem State.setSeg_ss_ds (g : Seg) : (s.setSeg .ss g).ds = s.ds := rfl
@[simp] theorem State.setSeg_ss_es (g : Seg) : (s.setSeg .ss g).es = s.es := rfl
@[simp] theorem State.setSeg_ds_cs (g : Seg) : (s.setSeg .ds g).cs = s.cs := rfl
@[simp] theorem State.setSeg_ds_ss (g : Seg) : (s.setSeg .ds g).ss = s.ss := rfl
@[simp] theorem State.setSeg_ds_ds (g : Seg) : (s.setSeg .ds g).ds = g := rfl
@[simp] theorem State.setSeg_ds_es (g : Seg) : (s.setSeg .ds g).es = s.es := rfl
@[simp] theorem State.setSeg_es_cs (g : Seg) : (s.setSeg .es g).cs = s.cs := rfl
@[simp] theorem State.setSeg_es_ss (g : Seg) : (s.setSeg .es g).ss = s.ss := rfl
@[simp] theorem State.setSeg_es_ds (g : Seg) : (s.setSeg .es g).ds = s.ds := rfl
@[simp] theorem State.setSeg_es_es (g : Seg) : (s.setSeg .es g).es = g := rfl

/-! ### Reading a register after writing one -/

theorem Regs.get_set (g : Regs) (r q : Reg16) (v : Word) : (g.set r v).get q = if q = r then v else g.get q := by
  cases r <;> cases q <;> rfl

@[simp] theorem Regs.get_set_same (g : Regs) (r : Reg16) (v : Word) : (g.set r v).get r = v := by cases r <;> rfl

@[simp] theorem State.setReg_reg_same (r : Reg16) (v : Word) : (s.setReg r v).reg r = v := Regs.get_set_same ..

theorem State.setReg_reg (r q : Reg16) (v : Word) : (s.setReg r v).reg q = if q = r then v else s.reg q :=
  Regs.get_set ..

theorem State.setReg_reg_ne {r q : Reg16} (h : q ≠ r) (v : Word) : (s.setReg r v).reg q = s.reg q := by
  rw [State.setReg_reg, if_neg h]

theorem Regs.get8_set8_same (g : Regs) (r : Reg8) (v : Byte) : (g.set8 r v).get8 r = v := by
  cases r <;> simp [Regs.get8, Regs.set8, reg8High, reg8Word]

theorem Regs.get8_set8_ne (g : Regs) {r q : Reg8} (h : q ≠ r) (v : Byte) : (g.set8 r v).get8 q = g.get8 q := by
  revert h
  cases r <;> cases q <;> intro h <;>
    first
    | exact absurd rfl h
    | simp [Regs.get8, Regs.set8, reg8High, reg8Word, Regs.get_set]

theorem State.setReg8_reg8_same (r : Reg8) (v : Byte) : (s.setReg8 r v).reg8 r = v := Regs.get8_set8_same ..

theorem State.setReg8_reg8_ne {r q : Reg8} (h : q ≠ r) (v : Byte) : (s.setReg8 r v).reg8 q = s.reg8 q :=
  Regs.get8_set8_ne _ h _

theorem State.setReg8_reg_ne {r : Reg8} {q : Reg16} (h : q ≠ reg8Word r) (v : Byte) :
    (s.setReg8 r v).reg q = s.reg q := by
  rw [State.reg, State.setReg8_regs, Regs.set8, Regs.get_set, if_neg h]; rfl

/-! ### Reads that an update does not touch -/

@[simp] theorem State.setFlags_reg (f : Flags) (r : Reg16) : (s.setFlags f).reg r = s.reg r := rfl
@[simp] theorem State.setFlags_reg8 (f : Flags) (q : Reg8) : (s.setFlags f).reg8 q = s.reg8 q := rfl
@[simp] theorem State.setIp_reg (w : Word) (r : Reg16) : (s.setIp w).reg r = s.reg r := rfl
@[simp] theorem State.setIp_reg8 (w : Word) (q : Reg8) : (s.setIp w).reg8 q = s.reg8 q := rfl
@[simp] theorem State.drawn_reg (r : Reg16) : (s.drawn).reg r = s.reg r := rfl
@[simp] theorem State.drawn_reg8 (q : Reg8) : (s.drawn).reg8 q = s.reg8 q := rfl
@[simp] theorem State.advance_reg (r : Reg16) : (s.advance).reg r = s.reg r := rfl
@[simp] theorem State.advance_reg8 (q : Reg8) : (s.advance).reg8 q = s.reg8 q := rfl
@[simp] theorem State.writeByte_reg (a : Addr) (v : Byte) (r : Reg16) : (s.writeByte a v).reg r = s.reg r := rfl
@[simp] theorem State.writeByte_reg8 (a : Addr) (v : Byte) (q : Reg8) : (s.writeByte a v).reg8 q = s.reg8 q := rfl
@[simp] theorem State.writeWord_reg (a : Addr) (v : Word) (r : Reg16) : (s.writeWord a v).reg r = s.reg r := rfl
@[simp] theorem State.writeWord_reg8 (a : Addr) (v : Word) (q : Reg8) : (s.writeWord a v).reg8 q = s.reg8 q := rfl
@[simp] theorem State.poke8_reg (r : SReg) (o : Word) (v : Byte) (q : Reg16) : (s.poke8 r o v).reg q = s.reg q := rfl
@[simp] theorem State.poke8_reg8 (r : SReg) (o : Word) (v : Byte) (q : Reg8) : (s.poke8 r o v).reg8 q = s.reg8 q := rfl
@[simp] theorem State.poke16_reg (r : SReg) (o : Word) (v : Word) (q : Reg16) : (s.poke16 r o v).reg q = s.reg q := rfl
@[simp] theorem State.poke16_reg8 (r : SReg) (o : Word) (v : Word) (q : Reg8) : (s.poke16 r o v).reg8 q = s.reg8 q := rfl
@[simp] theorem State.logIo_reg (c : IoCycle) (r : Reg16) : (s.logIo c).reg r = s.reg r := rfl
@[simp] theorem State.logIo_reg8 (c : IoCycle) (q : Reg8) : (s.logIo c).reg8 q = s.reg8 q := rfl
@[simp] theorem State.inhibit_reg (i : Inhibit) (r : Reg16) : (s.inhibit i).reg r = s.reg r := rfl
@[simp] theorem State.inhibit_reg8 (i : Inhibit) (q : Reg8) : (s.inhibit i).reg8 q = s.reg8 q := rfl
@[simp] theorem State.enterShutdown_reg (r : Reg16) : (s.enterShutdown).reg r = s.reg r := rfl
@[simp] theorem State.enterShutdown_reg8 (q : Reg8) : (s.enterShutdown).reg8 q = s.reg8 q := rfl
@[simp] theorem State.resume_reg (r : Reg16) : (s.resume).reg r = s.reg r := rfl
@[simp] theorem State.resume_reg8 (q : Reg8) : (s.resume).reg8 q = s.reg8 q := rfl
@[simp] theorem State.unmaskNmi_reg (r : Reg16) : (s.unmaskNmi).reg r = s.reg r := rfl
@[simp] theorem State.unmaskNmi_reg8 (q : Reg8) : (s.unmaskNmi).reg8 q = s.reg8 q := rfl
@[simp] theorem State.consumed_reg (n : Nat) (r : Reg16) : (s.consumed n).reg r = s.reg r := rfl
@[simp] theorem State.consumed_reg8 (n : Nat) (q : Reg8) : (s.consumed n).reg8 q = s.reg8 q := rfl
@[simp] theorem State.setExt_reg (x : Ext) (r : Reg16) : (s.setExt x).reg r = s.reg r := rfl
@[simp] theorem State.setExt_reg8 (x : Ext) (q : Reg8) : (s.setExt x).reg8 q = s.reg8 q := rfl
@[simp] theorem State.setAccessed_reg (sel : Word) (d : Desc) (r : Reg16) : (s.setAccessed sel d).reg r = s.reg r := rfl
@[simp] theorem State.setAccessed_reg8 (sel : Word) (d : Desc) (q : Reg8) : (s.setAccessed sel d).reg8 q = s.reg8 q := rfl

end Sys2Proof.Machine
end

