-- ==== Sys2Proof/Laws/Memory.lean ====
section
/-!
SUPPORT. Memory: the canonical form is kept by every write, a read after a write gives the value written, and a write
leaves every other cell alone; then the same for bytes and words at physical addresses and at segment offsets.
-/

namespace Sys2Proof.Machine

/-! ### The list of cells -/

theorem cellsWf_mono {lo lo' : Nat} (h : lo' ≤ lo) : ∀ {m : List Host.Cell}, cellsWf lo m = true → cellsWf lo' m = true
  | [], _ => rfl
  | c :: t, hm => by
    simp only [cellsWf, Bool.and_eq_true, decide_eq_true_eq] at hm ⊢
    exact ⟨⟨⟨Nat.le_trans h hm.1.1.1, hm.1.1.2⟩, hm.1.2⟩, hm.2⟩

/-- Writing below 2^24 keeps the canonical form. -/
theorem writeCell_wf {a : Nat} (v : Byte) (ha : a < 2 ^ 24) :
    ∀ {lo : Nat} {m : List Host.Cell}, lo ≤ a → cellsWf lo m = true → cellsWf lo (writeCell m a v) = true
  | lo, [], hl, _ => by
    by_cases hv : v = unlistedByte <;> simp_all [writeCell, cellsWf]
  | lo, c :: t, hl, hm => by
    simp only [cellsWf, Bool.and_eq_true, decide_eq_true_eq] at hm
    obtain ⟨⟨⟨hlo, hc⟩, hne⟩, ht⟩ := hm
    unfold writeCell
    split
    · split
      · simp_all [cellsWf]
      · rename_i h1 h2
        have : a + 1 ≤ c.1 := h1
        simp_all [cellsWf]
    · split
      · rename_i h1 h2
        subst h2
        split
        · exact cellsWf_mono (by omega) ht
        · rename_i h3
          simp_all [cellsWf]
      · rename_i h1 h2
        simp only [cellsWf, Bool.and_eq_true, decide_eq_true_eq]
        exact ⟨⟨⟨hlo, hc⟩, hne⟩, writeCell_wf v ha (by omega) ht⟩

/-- In a canonical list nothing below its bound is listed. -/
theorem readCell_below : ∀ {lo : Nat} {m : List Host.Cell} {k : Nat}, cellsWf lo m = true → k < lo →
    readCell m k = unlistedByte
  | _, [], _, _, _ => rfl
  | lo, c :: t, k, hm, hk => by
    simp only [cellsWf, Bool.and_eq_true, decide_eq_true_eq] at hm
    have : c.1 ≠ k := by omega
    simp [readCell, this, readCell_below hm.2 (by omega : k < c.1 + 1)]

/-- A read after a write to the same cell gives the value written. -/
theorem readCell_writeCell_same {a : Nat} (v : Byte) :
    ∀ {lo : Nat} {m : List Host.Cell}, cellsWf lo m = true → readCell (writeCell m a v) a = v
  | _, [], _ => by
    by_cases hv : v = unlistedByte <;> simp [writeCell, hv, readCell]
  | lo, c :: t, hm => by
    simp only [cellsWf, Bool.and_eq_true, decide_eq_true_eq] at hm
    unfold writeCell
    split
    · rename_i h1
      split
      · rename_i h2
        have : c.1 ≠ a := by omega
        simp [readCell, this, h2, readCell_below hm.2 (by omega : a < c.1 + 1)]
      · simp [readCell]
    · split
      · rename_i h1 h2
        subst h2
        split
        · rename_i h3
          rw [h3]
          exact readCell_below hm.2 (by omega)
        · simp [readCell]
      · rename_i h1 h2
        have : c.1 ≠ a := by omega
        simp only [readCell, this, if_false]
        exact readCell_writeCell_same v hm.2

/-- A write leaves every other cell alone. -/
theorem readCell_writeCell_ne {a k : Nat} (v : Byte) (h : k ≠ a) :
    ∀ {m : List Host.Cell}, readCell (writeCell m a v) k = readCell m k
  | [] => by
    by_cases hv : v = unlistedByte <;> simp [writeCell, hv, readCell, Ne.symm h]
  | c :: t => by
    unfold writeCell
    split
    · split
      · rfl
      · simp [readCell, Ne.symm h]
    · split
      · rename_i h1 h2
        subst h2
        split <;> simp [readCell, Ne.symm h]
      · by_cases hc : c.1 = k <;> simp [readCell, hc, readCell_writeCell_ne v h]

/-! ### Bytes and words at physical addresses -/

theorem State.cell_lt (s : State) (a : Addr) : s.cell a < 2 ^ 24 := (s.busAddr a).isLt

/-- A write of one byte keeps the canonical form. -/
theorem State.writeByte_wf {s : State} (h : Canonical s) (a : Addr) (v : Byte) : Canonical (s.writeByte a v) := by
  unfold Canonical State.writeByte
  split
  · exact h
  · exact writeCell_wf v (s.cell_lt a) (Nat.zero_le _) h

theorem State.writeWord_wf {s : State} (h : Canonical s) (a : Addr) (v : Word) : Canonical (s.writeWord a v) :=
  State.writeByte_wf (State.writeByte_wf h a v.lo) (a + 1) v.hi

@[simp] theorem State.writeByte_cell (s : State) (a b : Addr) (v : Byte) : (s.writeByte a v).cell b = s.cell b := rfl
@[simp] theorem State.writeByte_isRom (s : State) (a : Addr) (v : Byte) (k : Nat) :
    (s.writeByte a v).isRom k = s.isRom k := rfl

/-- A byte write changes no cell but its own. -/
theorem State.writeByte_frame (s : State) (a : Addr) (v : Byte) : SameMemoryBut s (s.writeByte a v) [s.cell a] := by
  intro k hk
  have hk : k ≠ s.cell a := by simpa using hk
  unfold State.writeByte
  split
  · rfl
  · exact readCell_writeCell_ne v hk

/-- A byte write leaves its value in its cell. -/
theorem State.writeByte_holds {s : State} (h : Canonical s) (a : Addr) (v : Byte) :
    HoldsByte s (s.writeByte a v) (s.cell a) v := by
  intro hr
  have hr' : s.isRom (s.busAddr a).toNat = false := hr
  simp only [State.writeByte, hr', State.cell]
  exact readCell_writeCell_same v h

/-- The two bytes of a word lie in different cells, whatever the A20 mask. -/
theorem State.cell_succ_ne (s : State) (a : Addr) : s.cell (a + 1) ≠ s.cell a := by
  intro h
  have h : s.busAddr (a + 1) = s.busAddr a := BitVec.eq_of_toNat_eq h
  unfold State.busAddr at h
  split at h
  · have := congrArg (fun x => x.getLsbD 0) h
    simp only [BitVec.getLsbD_and] at this
    have hb : (a + 1).getLsbD 0 = !a.getLsbD 0 := by
      simp only [← BitVec.testBit_toNat, BitVec.toNat_add, Nat.testBit_zero]
      have : (1 : Addr).toNat = 1 := rfl
      rw [this]
      by_cases h0 : a.toNat % 2 = 1 <;> simp [h0] <;> omega
    rw [hb] at this
    revert this
    cases a.getLsbD 0 <;> decide
  · have := congrArg BitVec.toNat h
    have h1 : (1 : Addr).toNat = 1 := rfl
    rw [BitVec.toNat_add, h1] at this
    have := a.isLt
    omega

/-- A word write changes no cell but its two. -/
theorem State.writeWord_frame (s : State) (a : Addr) (v : Word) :
    SameMemoryBut s (s.writeWord a v) (s.wordCells a) := by
  intro k hk
  have hk : k ≠ s.cell a ∧ k ≠ s.cell (a + 1) := by simpa [State.wordCells] using hk
  unfold State.writeWord
  rw [State.writeByte_frame _ _ _ k (by simpa using hk.2), State.writeByte_frame _ _ _ k (by simpa using hk.1)]

/-- A word write leaves its value in its two cells. -/
theorem State.writeWord_holds {s : State} (h : Canonical s) (a : Addr) (v : Word) : HoldsWord s (s.writeWord a v) a v := by
  constructor
  · intro hr
    unfold State.writeWord
    rw [State.writeByte_frame _ _ _ (s.cell a) (by simpa using (s.cell_succ_ne a).symm)]
    exact State.writeByte_holds h a v.lo hr
  · intro hr
    exact State.writeByte_holds (State.writeByte_wf h a v.lo) (a + 1) v.hi hr

/-! ### Accesses at segment offsets -/

theorem State.poke8_wf {s : State} (h : Canonical s) (r : SReg) (o : Word) (v : Byte) : Canonical (s.poke8 r o v) :=
  State.writeByte_wf h _ v

theorem State.poke16_wf {s : State} (h : Canonical s) (r : SReg) (o : Word) (v : Word) : Canonical (s.poke16 r o v) :=
  State.writeWord_wf h _ v

theorem State.push_wf {s : State} (h : Canonical s) (v : Word) : Canonical (s.push v) := State.writeWord_wf h _ v

/-- A push: the word at SS:SP-2, SP there, nothing else in registers or memory. -/
theorem State.push_effect {s : State} (h : Canonical s) (v : Word) :
    HoldsWord s (s.push v) (s.stackAddr 2) v ∧ SameMemoryBut s (s.push v) (s.wordCells (s.stackAddr 2)) ∧
      (s.push v).reg .sp = s.spDown 2 ∧ SameRegsBut s (s.push v) [.sp] := by
  refine ⟨State.writeWord_holds h _ v, State.writeWord_frame s _ v, ?_, ?_⟩
  · exact State.setReg_reg_same ..
  · intro r hr
    exact State.setReg_reg_ne _ (by simpa using hr) _

end Sys2Proof.Machine
end

