-- ==== Sys2Proof/Laws/Operands.lean ====
section
/-!
SUPPORT. One lemma per shared operation on operands that says all it does: what `putEb`, `putEw`, `rmwEb`, `rmwEw`
leave in registers and memory, how a meaning ends once its checks pass, and what a passed check means.
-/

namespace Sys2Proof.Machine

variable (s : State)

/-! ### The ends of a meaning -/

@[simp] theorem require_ok (c : Bool) (e : Exn) : require c e = .ok () ↔ c = true := by
  cases c <;> simp [require]

/-- A meaning whose checks pass ends in its effect. -/
theorem attempt_of_ok {s t : State} {c : Except Exn Unit} (h : c = .ok ()) : attempt s c t = .next t := by
  rw [h]; rfl

/-- The same for a meaning whose traps are made in another state. -/
theorem attemptIn_of_ok {f t : State} {c : Except Exn Unit} (h : c = .ok ()) : attemptIn f c t = .next t := by
  rw [h]; rfl

/-- A meaning whose check fails takes that exception, in the state before. -/
theorem attempt_of_error {s t : State} {c : Except Exn Unit} {x : Exn} (h : c = .error x) :
    attempt s c t = .next (s.raise x) := by
  rw [h]; rfl

/-- Two checks in a row pass exactly when both do. -/
@[simp] theorem bind_ok {a b : Except Exn Unit} :
    (do a; b : Except Exn Unit) = .ok () ↔ a = .ok () ∧ b = .ok () := by
  cases a with
  | ok u => cases u; exact ⟨fun h => ⟨rfl, h⟩, fun h => h.2⟩
  | error e => exact ⟨fun h => (by cases h), fun h => (by cases h.1)⟩

/-- A check of an access passes exactly when its three tests do (20 R108, R109). -/
theorem State.check_ok (r : SReg) (o : Word) (n : Nat) (w : Bool) :
    s.check r o n w = .ok () ↔ s.segUsable r = true ∧ s.segRights r w = true ∧ s.inLimit (s.seg r) o n = true := by
  simp [State.check]

/-! ### Writing an operand -/
@[simp] theorem State.putEb_ip (e : Eb) (v : Byte) : (s.putEb e v).ip = s.ip := by cases e <;> rfl
@[simp] theorem State.putEb_flags (e : Eb) (v : Byte) : (s.putEb e v).flags = s.flags := by cases e <;> rfl
@[simp] theorem State.putEb_msw (e : Eb) (v : Byte) : (s.putEb e v).msw = s.msw := by cases e <;> rfl
@[simp] theorem State.putEb_cs (e : Eb) (v : Byte) : (s.putEb e v).cs = s.cs := by cases e <;> rfl
@[simp] theorem State.putEb_ss (e : Eb) (v : Byte) : (s.putEb e v).ss = s.ss := by cases e <;> rfl
@[simp] theorem State.putEb_ds (e : Eb) (v : Byte) : (s.putEb e v).ds = s.ds := by cases e <;> rfl
@[simp] theorem State.putEb_es (e : Eb) (v : Byte) : (s.putEb e v).es = s.es := by cases e <;> rfl
@[simp] theorem State.putEb_gdtr (e : Eb) (v : Byte) : (s.putEb e v).gdtr = s.gdtr := by cases e <;> rfl
@[simp] theorem State.putEb_idtr (e : Eb) (v : Byte) : (s.putEb e v).idtr = s.idtr := by cases e <;> rfl
@[simp] theorem State.putEb_ldtr (e : Eb) (v : Byte) : (s.putEb e v).ldtr = s.ldtr := by cases e <;> rfl
@[simp] theorem State.putEb_tr (e : Eb) (v : Byte) : (s.putEb e v).tr = s.tr := by cases e <;> rfl
@[simp] theorem State.putEb_nmiPending (e : Eb) (v : Byte) : (s.putEb e v).nmiPending = s.nmiPending := by cases e <;> rfl
@[simp] theorem State.putEb_nmiMasked (e : Eb) (v : Byte) : (s.putEb e v).nmiMasked = s.nmiMasked := by cases e <;> rfl
@[simp] theorem State.putEb_peOverrun (e : Eb) (v : Byte) : (s.putEb e v).peOverrun = s.peOverrun := by cases e <;> rfl
@[simp] theorem State.putEb_intInhibit (e : Eb) (v : Byte) : (s.putEb e v).intInhibit = s.intInhibit := by cases e <;> rfl
@[simp] theorem State.putEb_tfAtStart (e : Eb) (v : Byte) : (s.putEb e v).tfAtStart = s.tfAtStart := by cases e <;> rfl
@[simp] theorem State.putEb_run (e : Eb) (v : Byte) : (s.putEb e v).run = s.run := by cases e <;> rfl
@[simp] theorem State.putEb_cur (e : Eb) (v : Byte) : (s.putEb e v).cur = s.cur := by cases e <;> rfl
@[simp] theorem State.putEb_waiting (e : Eb) (v : Byte) : (s.putEb e v).waiting = s.waiting := by cases e <;> rfl
@[simp] theorem State.putEb_extOp (e : Eb) (v : Byte) : (s.putEb e v).extOp = s.extOp := by cases e <;> rfl
@[simp] theorem State.putEb_ioLog (e : Eb) (v : Byte) : (s.putEb e v).ioLog = s.ioLog := by cases e <;> rfl
@[simp] theorem State.putEb_env (e : Eb) (v : Byte) : (s.putEb e v).env = s.env := by cases e <;> rfl
@[simp] theorem State.putEb_draw (e : Eb) (v : Byte) : (s.putEb e v).draw = s.draw := by cases e <;> rfl

@[simp] theorem State.putEw_ip (e : Ew) (v : Word) : (s.putEw e v).ip = s.ip := by cases e <;> rfl
@[simp] theorem State.putEw_flags (e : Ew) (v : Word) : (s.putEw e v).flags = s.flags := by cases e <;> rfl
@[simp] theorem State.putEw_msw (e : Ew) (v : Word) : (s.putEw e v).msw = s.msw := by cases e <;> rfl
@[simp] theorem State.putEw_cs (e : Ew) (v : Word) : (s.putEw e v).cs = s.cs := by cases e <;> rfl
@[simp] theorem State.putEw_ss (e : Ew) (v : Word) : (s.putEw e v).ss = s.ss := by cases e <;> rfl
@[simp] theorem State.putEw_ds (e : Ew) (v : Word) : (s.putEw e v).ds = s.ds := by cases e <;> rfl
@[simp] theorem State.putEw_es (e : Ew) (v : Word) : (s.putEw e v).es = s.es := by cases e <;> rfl
@[simp] theorem State.putEw_gdtr (e : Ew) (v : Word) : (s.putEw e v).gdtr = s.gdtr := by cases e <;> rfl
@[simp] theorem State.putEw_idtr (e : Ew) (v : Word) : (s.putEw e v).idtr = s.idtr := by cases e <;> rfl
@[simp] theorem State.putEw_ldtr (e : Ew) (v : Word) : (s.putEw e v).ldtr = s.ldtr := by cases e <;> rfl
@[simp] theorem State.putEw_tr (e : Ew) (v : Word) : (s.putEw e v).tr = s.tr := by cases e <;> rfl
@[simp] theorem State.putEw_nmiPending (e : Ew) (v : Word) : (s.putEw e v).nmiPending = s.nmiPending := by cases e <;> rfl
@[simp] theorem State.putEw_nmiMasked (e : Ew) (v : Word) : (s.putEw e v).nmiMasked = s.nmiMasked := by cases e <;> rfl
@[simp] theorem State.putEw_peOverrun (e : Ew) (v : Word) : (s.putEw e v).peOverrun = s.peOverrun := by cases e <;> rfl
@[simp] theorem State.putEw_intInhibit (e : Ew) (v : Word) : (s.putEw e v).intInhibit = s.intInhibit := by cases e <;> rfl
@[simp] theorem State.putEw_tfAtStart (e : Ew) (v : Word) : (s.putEw e v).tfAtStart = s.tfAtStart := by cases e <;> rfl
@[simp] theorem State.putEw_run (e : Ew) (v : Word) : (s.putEw e v).run = s.run := by cases e <;> rfl
@[simp] theorem State.putEw_cur (e : Ew) (v : Word) : (s.putEw e v).cur = s.cur := by cases e <;> rfl
@[simp] theorem State.putEw_waiting (e : Ew) (v : Word) : (s.putEw e v).waiting = s.waiting := by cases e <;> rfl
@[simp] theorem State.putEw_extOp (e : Ew) (v : Word) : (s.putEw e v).extOp = s.extOp := by cases e <;> rfl
@[simp] theorem State.putEw_ioLog (e : Ew) (v : Word) : (s.putEw e v).ioLog = s.ioLog := by cases e <;> rfl
@[simp] theorem State.putEw_env (e : Ew) (v : Word) : (s.putEw e v).env = s.env := by cases e <;> rfl
@[simp] theorem State.putEw_draw (e : Ew) (v : Word) : (s.putEw e v).draw = s.draw := by cases e <;> rfl

/-- `SameSystem` is about these fields only. -/
theorem SameSystem.refl : SameSystem s s :=
  ⟨rfl, ⟨rfl, rfl, rfl, rfl⟩, ⟨rfl, rfl, rfl, rfl⟩, rfl, rfl, rfl, rfl, rfl, rfl, rfl, rfl, rfl, rfl, rfl⟩

theorem SameSystem.trans {s t u : State} (h : SameSystem s t) (k : SameSystem t u) : SameSystem s u := by
  obtain ⟨h1, ⟨h2, h3, h4, h5⟩, ⟨h6, h7, h8, h9⟩, g1, g2, g3, g4, g5, g6, g7, g8, g9, ga, gb⟩ := h
  obtain ⟨k1, ⟨k2, k3, k4, k5⟩, ⟨k6, k7, k8, k9⟩, l1, l2, l3, l4, l5, l6, l7, l8, l9, la, lb⟩ := k
  exact ⟨k1.trans h1, ⟨k2.trans h2, k3.trans h3, k4.trans h4, k5.trans h5⟩,
    ⟨k6.trans h6, k7.trans h7, k8.trans h8, k9.trans h9⟩, l1.trans g1, l2.trans g2, l3.trans g3, l4.trans g4,
    l5.trans g5, l6.trans g6, l7.trans g7, l8.trans g8, l9.trans g9, la.trans ga, lb.trans gb⟩

theorem State.putEb_sameSystem (e : Eb) (v : Byte) : SameSystem s (s.putEb e v) := by
  cases e <;> exact SameSystem.refl s

theorem State.putEw_sameSystem (e : Ew) (v : Word) : SameSystem s (s.putEw e v) := by
  cases e <;> exact SameSystem.refl s

/-- What an operand write says depends on registers and memory only. -/
theorem WroteEb.congr {s t u : State} {e : Eb} {v : Byte} (h : WroteEb s t e v) (hr : u.regs = t.regs)
    (hm : u.mem = t.mem) : WroteEb s u e v := by
  cases e <;>
    simp only [WroteEb, SameRegsBut8, SameRegsBut, SameMemoryBut, HoldsByte, State.reg, State.reg8, hr, hm] at h ⊢ <;>
    exact h

theorem WroteEw.congr {s t u : State} {e : Ew} {v : Word} (h : WroteEw s t e v) (hr : u.regs = t.regs)
    (hm : u.mem = t.mem) : WroteEw s u e v := by
  cases e <;>
    simp only [WroteEw, SameRegsBut, SameMemoryBut, HoldsWord, HoldsByte, State.reg, hr, hm] at h ⊢ <;>
    exact h

/-- A byte register write changes nothing but that register. -/
theorem State.setReg8_effect (r : Reg8) (v : Byte) : WroteEb s (s.setReg8 r v) (.reg r) v := by
  refine ⟨State.setReg8_reg8_same .., ⟨fun q hq => State.setReg8_reg8_ne _ hq v, fun q hq => ?_⟩, fun _ _ => rfl⟩
  refine State.setReg8_reg_ne _ ?_ v
  rintro rfl
  revert hq
  cases r <;> decide

/-- A word register write changes nothing but that register. -/
theorem State.setReg_effect (r : Reg16) (v : Word) : WroteEw s (s.setReg r v) (.reg r) v :=
  ⟨State.setReg_reg_same .., fun q hq => State.setReg_reg_ne _ (by simpa using hq) v, fun _ _ => rfl⟩

/-- All that writing `eb` does. -/
theorem State.putEb_effect {s : State} (h : Canonical s) (e : Eb) (v : Byte) : WroteEb s (s.putEb e v) e v := by
  cases e with
  | reg r => exact s.setReg8_effect r v
  | mem m => exact ⟨State.writeByte_holds h _ v, fun _ _ => rfl, State.writeByte_frame s _ v⟩

/-- All that writing `ew` does. -/
theorem State.putEw_effect {s : State} (h : Canonical s) (e : Ew) (v : Word) : WroteEw s (s.putEw e v) e v := by
  cases e with
  | reg r => exact s.setReg_effect r v
  | mem m => exact ⟨State.writeWord_holds h _ v, fun _ _ => rfl, State.writeWord_frame s _ v⟩

/-! ### Completing with an operand written -/

/-- An operand written, flags set, IP advanced: all of it. -/
theorem EndsEb.of_next {i : Instr} {s : State} (h : Canonical s) {e : Eb} {v : Byte} {t : State} {F : Flags → Prop}
    (he : exec i s = .next t) (hr : t.regs = (s.putEb e v).regs) (hm : t.mem = (s.putEb e v).mem)
    (hF : F t.flags) (hi : t.ip = s.nextIp) (hs : SameSystem s t) : EndsEb i s e v F :=
  ⟨t, he, (State.putEb_effect h e v).congr hr hm, hF, hi, hs⟩

theorem EndsEw.of_next {i : Instr} {s : State} (h : Canonical s) {e : Ew} {v : Word} {t : State} {F : Flags → Prop}
    (he : exec i s = .next t) (hr : t.regs = (s.putEw e v).regs) (hm : t.mem = (s.putEw e v).mem)
    (hF : F t.flags) (hi : t.ip = s.nextIp) (hs : SameSystem s t) : EndsEw i s e v F :=
  ⟨t, he, (State.putEw_effect h e v).congr hr hm, hF, hi, hs⟩

/-- A read-modify-write that completes, with what it leaves. -/
theorem EndsEb.of_rmw {i : Instr} {s : State} (h : Canonical s) {e : Eb} {f : Byte → Flags → Byte × Flags} {F : Flags → Prop}
    (he : exec i s = .next (s.rmwEb e f).advance ∨ exec i s = .next (s.rmwEb e f).advance.drawn)
    (hF : F (f (s.getEb e) s.flags).2) : EndsEb i s e (f (s.getEb e) s.flags).1 F := by
  have hs : SameSystem s (s.putEb e (f (s.getEb e) s.flags).1) := s.putEb_sameSystem e _
  have hi : (s.rmwEb e f).advance.ip = s.nextIp := by simp [State.rmwEb, State.nextIp]
  rcases he with he | he
  · exact EndsEb.of_next h he rfl rfl hF hi hs
  · exact EndsEb.of_next h he rfl rfl hF hi hs

theorem EndsEw.of_rmw {i : Instr} {s : State} (h : Canonical s) {e : Ew} {f : Word → Flags → Word × Flags} {F : Flags → Prop}
    (he : exec i s = .next (s.rmwEw e f).advance ∨ exec i s = .next (s.rmwEw e f).advance.drawn)
    (hF : F (f (s.getEw e) s.flags).2) : EndsEw i s e (f (s.getEw e) s.flags).1 F := by
  have hs : SameSystem s (s.putEw e (f (s.getEw e) s.flags).1) := s.putEw_sameSystem e _
  have hi : (s.rmwEw e f).advance.ip = s.nextIp := by simp [State.rmwEw, State.nextIp]
  rcases he with he | he
  · exact EndsEw.of_next h he rfl rfl hF hi hs
  · exact EndsEw.of_next h he rfl rfl hF hi hs

/-- Flags written, IP advanced. -/
theorem EndsFlags.of_next {i : Instr} {s : State} {f : Flags} {F : Flags → Prop}
    (he : exec i s = .next (s.setFlags f).advance ∨ exec i s = .next (s.setFlags f).advance.drawn) (hF : F f) :
    EndsFlags i s F := by
  rcases he with he | he <;>
    exact ⟨_, he, ⟨fun _ _ => rfl, fun _ _ => rfl⟩, hF, rfl, SameSystem.refl s⟩

end Sys2Proof.Machine
end

