-- ==== Sys2Proof/Laws/Stack.lean ====
section
/-!
SUPPORT. Cells of one segment: two offsets less than 2^20 apart name different cells whatever the A20 mask, so the words
of a stack frame do not overlap; what a word reads as after it was stored, or after another was.
-/

namespace Sys2Proof.Machine

/-- Two displacements from one physical address, both below 2^20, name one cell only if they are equal. -/
theorem State.cell_add_inj (s : State) (b : Addr) {m n : Nat} (hm : m < 2 ^ 20) (hn : n < 2 ^ 20)
    (h : s.cell (b + BitVec.ofNat 24 m) = s.cell (b + BitVec.ofNat 24 n)) : m = n := by
  unfold State.cell State.busAddr at h
  have hb := b.isLt
  have key : ∀ x : Addr, (x &&& 0x0FFFFF).toNat = x.toNat % 2 ^ 20 := by
    intro x
    rw [BitVec.toNat_and]
    exact Nat.and_two_pow_sub_one_eq_mod x.toNat 20
  split at h
  · rw [key, key] at h
    simp only [BitVec.toNat_add, BitVec.toNat_ofNat] at h
    omega
  · simp only [BitVec.toNat_add, BitVec.toNat_ofNat] at h
    omega

theorem State.linear_eq (s : State) (r : SReg) (o : Word) : s.linear r o = (s.seg r).base + BitVec.ofNat 24 o.toNat := by
  have : zext24 o = BitVec.ofNat 24 o.toNat := by
    apply BitVec.eq_of_toNat_eq
    simp [zext24]
  rw [State.linear, this]

theorem State.linear_succ (s : State) (r : SReg) (o : Word) :
    s.linear r o + 1 = (s.seg r).base + BitVec.ofNat 24 (o.toNat + 1) := by
  rw [State.linear_eq, BitVec.add_assoc]
  congr 1
  apply BitVec.eq_of_toNat_eq
  simp

/-- Different offsets of a segment name different cells. -/
theorem State.linear_cell_inj (s : State) (r : SReg) {o p : Word} (h : s.cell (s.linear r o) = s.cell (s.linear r p)) :
    o = p := by
  rw [State.linear_eq, State.linear_eq] at h
  have := s.cell_add_inj _ (by omega) (by omega) h
  exact BitVec.eq_of_toNat_eq this

/-- A cell of a word is one of the two after its offset. -/
theorem State.mem_wordCells (s : State) (r : SReg) (o : Word) {k : Nat} (h : k ∈ s.wordCells (s.linear r o)) :
    ∃ i, i < 2 ∧ k = s.cell ((s.seg r).base + BitVec.ofNat 24 (o.toNat + i)) := by
  rw [State.wordCells, State.linear_succ, State.linear_eq] at h
  rcases List.mem_cons.1 h with rfl | h
  · exact ⟨0, by omega, rfl⟩
  · exact ⟨1, by omega, by simpa using h⟩

/-- Words at offsets that are two or more apart, in both directions around the segment, share no cell. -/
theorem State.words_disjoint (s : State) (r : SReg) {o p : Word} (h1 : 2 ≤ (o - p).toNat) (h2 : 2 ≤ (p - o).toNat) :
    ∀ k ∈ s.wordCells (s.linear r o), k ∉ s.wordCells (s.linear r p) := by
  intro k hk hk'
  obtain ⟨i, hi, rfl⟩ := s.mem_wordCells r o hk
  obtain ⟨j, hj, hk'⟩ := s.mem_wordCells r p hk'
  have ho := o.isLt
  have hp := p.isLt
  have := s.cell_add_inj _ (by omega) (by omega) hk'
  rw [BitVec.toNat_sub] at h1 h2
  omega

/-- A word reads as two cells. -/
theorem State.readWord_congr {s t : State} (a : Addr) (hm : t.msw = s.msw) (he : t.env = s.env)
    (h0 : readCell t.mem (s.cell a) = readCell s.mem (s.cell a))
    (h1 : readCell t.mem (s.cell (a + 1)) = readCell s.mem (s.cell (a + 1))) : t.readWord a = s.readWord a := by
  have hb : ∀ x, t.busAddr x = s.busAddr x := fun x => by simp [State.busAddr, hm, he]
  simp only [State.readWord, State.readByte, hb]
  exact congrArg₂ wordOf h1 h0

/-- A word that was stored in memory that keeps what is written reads as what was stored. -/
theorem State.readWord_of_holds {s t : State} {a : Addr} {v : Word} (hm : t.msw = s.msw) (he : t.env = s.env)
    (h : HoldsWord s t a v) (h0 : s.isRom (s.cell a) = false) (h1 : s.isRom (s.cell (a + 1)) = false) :
    t.readWord a = v := by
  have hb : ∀ x, t.busAddr x = s.busAddr x := fun x => by simp [State.busAddr, hm, he]
  simp only [State.readWord, State.readByte, hb]
  have e0 : readCell t.mem (s.busAddr a).toNat = v.lo := h.1 h0
  have e1 : readCell t.mem (s.busAddr (a + 1)).toNat = v.hi := h.2 h1
  rw [e0, e1, wordOf_hi_lo]

end Sys2Proof.Machine
end

