-- ==== Sys2Proof/Laws/Frame.lean ====
section
/-!
SUPPORT. All that a row of pushes does: the words lie below the old SP, the first one highest, and nothing else changes.
-/

namespace Sys2Proof.Machine

/-- Two more bytes below. -/
theorem sub_two_sub (x : Word) (k : Nat) :
    x - 2 - BitVec.ofNat 16 (2 * k) = x - BitVec.ofNat 16 (2 * (k + 1)) := by
  have h2 : (2 : Word).toNat = 2 := rfl
  apply BitVec.eq_of_toNat_eq
  simp only [BitVec.toNat_sub, BitVec.toNat_ofNat, h2]
  omega

theorem sub_sub_two (x : Word) (k : Nat) :
    x - BitVec.ofNat 16 (2 * k) - 2 = x - BitVec.ofNat 16 (2 * (k + 1)) := by
  have h2 : (2 : Word).toNat = 2 := rfl
  apply BitVec.eq_of_toNat_eq
  simp only [BitVec.toNat_sub, BitVec.toNat_ofNat, h2]
  omega

/-- Pushes touch registers and memory only. -/
theorem State.pushes_eq (l : List Word) : ∀ s : State,
    s.pushes l = { s with regs := (s.pushes l).regs, mem := (s.pushes l).mem } := by
  induction l with
  | nil => intro s; rfl
  | cons w t ih => intro s; rw [State.pushes, ih]; rfl

theorem State.pushes_append (l k : List Word) : ∀ s : State, s.pushes (l ++ k) = (s.pushes l).pushes k := by
  induction l with
  | nil => intro s; rfl
  | cons w t ih => intro s; exact ih (s.push w)

theorem State.pushes_seg (s : State) (l : List Word) (r : SReg) : (s.pushes l).seg r = s.seg r := by
  rw [State.pushes_eq]; cases r <;> rfl

theorem State.pushes_cell (s : State) (l : List Word) (a : Addr) : (s.pushes l).cell a = s.cell a := by
  rw [State.pushes_eq]; rfl

theorem State.pushes_isRom (s : State) (l : List Word) (k : Nat) : (s.pushes l).isRom k = s.isRom k := by
  rw [State.pushes_eq]; rfl

/-- SP after a row of pushes; the other registers are the same. -/
theorem State.pushes_regs (l : List Word) : ∀ s : State,
    (s.pushes l).reg .sp = s.reg .sp - BitVec.ofNat 16 (2 * l.length) ∧ SameRegsBut s (s.pushes l) [.sp] := by
  induction l with
  | nil => intro s; exact ⟨by simp [State.pushes], fun _ _ => rfl⟩
  | cons w t ih =>
    intro s
    have hsp : (s.push w).reg .sp = s.reg .sp - 2 := State.setReg_reg_same _ _ _
    obtain ⟨h1, h2⟩ := ih (s.push w)
    refine ⟨?_, fun r hr => ?_⟩
    · rw [State.pushes, h1, hsp, sub_two_sub, List.length_cons]
    · rw [State.pushes, h2 r hr]
      exact State.setReg_reg_ne _ (by simpa using hr) _

/-- The address of the next push after a row of them. -/
theorem State.pushes_stackAddr (s : State) (l : List Word) :
    (s.pushes l).stackAddr 2 = s.stackAddr (BitVec.ofNat 16 (2 * (l.length + 1))) := by
  rw [State.stackAddr, State.stackAddr, State.linear, State.linear, State.pushes_seg, State.spDown, State.spDown,
    (State.pushes_regs l s).1, sub_sub_two]

/-- The words below SP at different depths share no cell. -/
theorem State.frame_disjoint (s : State) {i j : Nat} (hi : i < 2 ^ 15 - 1) (hj : j < 2 ^ 15 - 1) (h : i ≠ j) :
    ∀ k ∈ s.wordCells (s.stackAddr (BitVec.ofNat 16 (2 * (i + 1)))),
      k ∉ s.wordCells (s.stackAddr (BitVec.ofNat 16 (2 * (j + 1)))) := by
  apply s.words_disjoint .ss <;>
  · simp only [State.spDown, BitVec.toNat_sub, BitVec.toNat_ofNat]
    omega

theorem State.belowCells_succ (s : State) (k : Nat) :
    s.belowCells (k + 1) = s.belowCells k ++ s.wordCells (s.stackAddr (BitVec.ofNat 16 (2 * (k + 1)))) := by
  rw [State.belowCells, List.range_succ, List.flatMap_append]
  simp [State.belowCells]

theorem State.pushes_wf (l : List Word) : ∀ {s : State}, Canonical s → Canonical (s.pushes l) := by
  induction l with
  | nil => exact fun h => h
  | cons w t ih => exact fun h => ih (State.push_wf h w)

/-- All that a row of pushes does. -/
theorem State.pushes_frame {s : State} (h : Canonical s) (l : List Word) (hl : l.length < 2 ^ 15 - 1) :
    FramePushed s (s.pushes l) l [] ∧ Canonical (s.pushes l) := by
  have hr := State.pushes_regs l s
  refine ⟨⟨?_, ?_, hr.1, hr.2⟩, ?_⟩
  all_goals revert hl
  · induction l using List.reverseRecOn with
    | nil => intro _ i hi; simp at hi
    | append_singleton l w ih =>
      intro hl
      have hc : Canonical (s.pushes l) := State.pushes_wf l h
      rw [List.length_append] at hl
      simp only [List.length_cons, List.length_nil] at hl
      have hp := State.push_effect hc w
      have ha := s.pushes_stackAddr l
      have e : s.pushes (l ++ [w]) = (s.pushes l).push w := State.pushes_append l [w] s
      intro i hi
      rw [List.length_append] at hi
      simp only [List.length_cons, List.length_nil] at hi
      rw [e]
      rcases Nat.lt_succ_iff_lt_or_eq.1 (by omega : i < l.length + 1) with hlt | rfl
      · have hprev := ih (State.pushes_regs l s) (by omega) i hlt
        have hfr : ∀ k ∈ s.wordCells (s.stackAddr (BitVec.ofNat 16 (2 * (i + 1)))),
            readCell ((s.pushes l).push w).mem k = readCell (s.pushes l).mem k := by
          intro k hk
          refine hp.2.1 k ?_
          have := s.frame_disjoint (by omega) (by omega) (Nat.ne_of_lt hlt) k hk
          rw [← ha] at this
          simpa [State.wordCells, State.pushes_cell] using this
        have hget : (l ++ [w])[i]'(by simp; omega) = l[i] := List.getElem_append_left hlt
        rw [hget]
        refine ⟨fun hx hrom => ?_, fun hx hrom => ?_⟩
        · rw [hfr _ (by simp [State.wordCells])]; exact hprev.1 hx hrom
        · rw [hfr _ (by simp [State.wordCells])]; exact hprev.2 hx hrom
      · have hget : (l ++ [w])[l.length]'(by simp) = w := by simp
        rw [hget]
        have h1 := hp.1
        rw [ha] at h1
        refine ⟨fun _ hrom => ?_, fun _ hrom => ?_⟩
        · have := h1.1; rw [State.pushes_cell] at this
          exact this (by rw [State.pushes_isRom]; exact hrom)
        · have := h1.2; rw [State.pushes_cell] at this
          exact this (by rw [State.pushes_isRom]; exact hrom)
  · induction l using List.reverseRecOn with
    | nil => intro _ k _; rfl
    | append_singleton l w ih =>
      intro hl
      have hc : Canonical (s.pushes l) := State.pushes_wf l h
      simp only [List.length_append, List.length_cons, List.length_nil] at hl
      intro k hk
      have e : s.pushes (l ++ [w]) = (s.pushes l).push w := State.pushes_append l [w] s
      simp only [List.length_append, List.length_cons, List.length_nil, Nat.zero_add, State.belowCells_succ,
        List.append_nil, List.mem_append, not_or] at hk
      rw [e, (State.push_effect hc w).2.1 k, ih (State.pushes_regs l s) (by omega) k (by simpa using hk.1)]
      rw [s.pushes_stackAddr l]
      simpa [State.wordCells, State.pushes_cell] using hk.2
  · exact fun _ => State.pushes_wf l h

/-! ### Pushes that fail in no way -/

/-- Room for `k` words below SP, read for each. -/
theorem allBelow_iff (p : Nat → Bool) : ∀ k, allBelow k p = true ↔ ∀ i, i < k → p i = true
  | 0 => by simp [allBelow]
  | k + 1 => by
    rw [allBelow, Bool.and_eq_true, allBelow_iff p k]
    constructor
    · rintro ⟨h1, h2⟩ i hi
      rcases Nat.lt_succ_iff_lt_or_eq.1 hi with h | rfl
      · exact h2 i h
      · exact h1
    · intro h
      exact ⟨h k (by omega), fun i hi => h i (by omega)⟩

/-- Room for a row of pushes is room for the first and, after it, for the rest. -/
theorem State.stackRoom_push (s : State) (w : Word) (k : Nat) (h : s.stackRoom (k + 1) = true) :
    s.segUsable .ss = true ∧ s.inLimit s.ss (s.spDown 2) 2 = true ∧ (s.push w).stackRoom k = true := by
  simp only [State.stackRoom, State.room, Bool.and_eq_true, allBelow_iff] at h ⊢
  refine ⟨h.1, h.2 0 (by omega), h.1, fun i hi => ?_⟩
  have := h.2 (i + 1) (by omega)
  have hsp : (s.push w).reg .sp = s.reg .sp - 2 := State.setReg_reg_same _ _ _
  rw [hsp, sub_two_sub]
  exact this

/-- Pushes of Real Address Mode with room for all of them. -/
theorem pushAllReal_ok (l : List Word) : ∀ s : State, s.msw.pe = false → s.stackRoom l.length = true →
    pushAllReal l s = .ok (s.pushes l) := by
  induction l with
  | nil => intros; rfl
  | cons w t ih =>
    intro s hp hr
    obtain ⟨h1, h2, h3⟩ := s.stackRoom_push w t.length hr
    have hc : s.check .ss (s.spDown 2) 2 true = .ok () :=
      (s.check_ok ..).2 ⟨h1, by simp [State.segRights, hp], h2⟩
    rw [pushAllReal, hc]
    exact ih (s.push w) hp h3

/-- Pushes of PUSHA with room for all of them in a writable stack. -/
theorem pushUntil_ok (l : List Word) : ∀ s : State, s.segRights .ss true = true → s.stackRoom l.length = true →
    pushUntil l s = .ok (s.pushes l) := by
  induction l with
  | nil => intros; rfl
  | cons w t ih =>
    intro s hp hr
    obtain ⟨h1, h2, h3⟩ := s.stackRoom_push w t.length hr
    have hc : s.check .ss (s.spDown 2) 2 true = .ok () := (s.check_ok ..).2 ⟨h1, hp, h2⟩
    rw [pushUntil, hc]
    exact ih (s.push w) hp h3

/-! ### Far pointers and returns, in either form -/

/-- A far JMP runs as its pointer says, wherever the pointer stands. -/
theorem JumpsFar.exec_eq {i : Instr} {s : State} {sel off : Word} (h : JumpsFar i s sel off) :
    exec i s = finishT (s.jmpFar sel off) := by
  obtain rfl | ⟨m, rfl, hc, rfl, rfl⟩ := h
  · rfl
  · simp only [exec, execJmpMd, State.checkM, hc]; rfl

/-- A far CALL runs as its pointer says, wherever the pointer stands. -/
theorem CallsFar.exec_eq {i : Instr} {s : State} {sel off : Word} (h : CallsFar i s sel off) :
    exec i s = finishT (s.callFar sel off) := by
  obtain rfl | ⟨m, rfl, hc, rfl, rfl⟩ := h
  · rfl
  · simp only [exec, execCallEd, State.checkM, hc]; rfl

/-- A far RET without an operand releases no byte. -/
theorem ReturnsFar.exec_eq {i : Instr} {imm : Word} (h : ReturnsFar i imm) (s : State) :
    exec i s = finish s (s.retFar imm) := by
  obtain rfl | ⟨rfl, rfl⟩ := h <;> rfl

end Sys2Proof.Machine
end

