-- ==== Sys2Proof/Laws/Flags.lean ====
section
/-!
SUPPORT. What the shared result and flag computations say, in the manual's terms.
-/

namespace Sys2Proof.Machine

theorem szp_result {n : Nat} (f : Flags) (r : BitVec n) : ResultFlags (f.szp r) r :=
  ⟨rfl, by simp [Flags.szp], rfl⟩

theorem szp_control {n : Nat} (f : Flags) (r : BitVec n) : SameControlFlags f (f.szp r) := ⟨rfl, rfl, rfl, rfl, rfl⟩

/-- The top bit of a number is its sign. -/
theorem msb_iff {n : Nat} (x : BitVec n) : x.msb = true ↔ 2 ^ (n - 1) ≤ x.toNat := by
  rw [BitVec.msb_eq_decide]; simp

/-- The signed value of a number, by its top bit. -/
theorem toInt_cases {n : Nat} (hn : 0 < n) (x : BitVec n) :
    (x.msb = false ∧ x.toInt = x.toNat ∧ x.toNat < 2 ^ (n - 1)) ∨
    (x.msb = true ∧ x.toInt = (x.toNat : Int) - 2 ^ n ∧ 2 ^ (n - 1) ≤ x.toNat) := by
  have hm := msb_iff x
  have h2 : 2 ^ n = 2 * 2 ^ (n - 1) := by rw [← pow_succ']; congr 1; omega
  cases hx : x.msb
  · left
    have : x.toNat < 2 ^ (n - 1) := by
      by_contra hc; rw [hx] at hm; exact absurd (hm.2 (by omega)) (by simp)
    exact ⟨rfl, by rw [BitVec.toInt_eq_toNat_cond, if_pos (by omega)], this⟩
  · right
    have := hm.1 hx
    exact ⟨rfl, by rw [BitVec.toInt_eq_toNat_cond, if_neg (by omega)]; push_cast; rfl, this⟩

/-- `Add` computes the sum and its flags. -/
theorem addF_says {n : Nat} (hn : 0 < n) (a b : BitVec n) (c : Bool) (f : Flags) :
    AddSays a b c f (addF a b c f).2 (addF a b c f).1 where
  value := by simp [addF]
  carry := by simp [addF]
  auxiliary := by simp [addF]
  overflow := by
    have h2 : 2 ^ n = 2 * 2 ^ (n - 1) := by rw [← pow_succ']; congr 1; omega
    have h2i : (2 : Int) ^ n = 2 * 2 ^ (n - 1) := by exact_mod_cast h2
    have hp : ((2 ^ (n - 1) : Nat) : Int) = 2 ^ (n - 1) := by push_cast; rfl
    have hr : (BitVec.ofNat n (a.toNat + b.toNat + c.toNat)).toNat = (a.toNat + b.toNat + c.toNat) % 2 ^ n := by simp
    have hc : c.toNat ≤ 1 := by cases c <;> decide
    have ha := a.isLt
    have hb := b.isLt
    simp only [addF, FitsSigned, Bool.and_eq_true, beq_iff_eq, bne_iff_ne]
    generalize hrr : BitVec.ofNat n (a.toNat + b.toNat + c.toNat) = r at *
    have hr' : r.toNat = a.toNat + b.toNat + c.toNat ∨ r.toNat + 2 ^ n = a.toNat + b.toNat + c.toNat := by
      rw [hr]
      by_cases hl : a.toNat + b.toNat + c.toNat < 2 ^ n
      · left; exact Nat.mod_eq_of_lt hl
      · right
        rw [Nat.mod_eq_sub_mod (by omega), Nat.mod_eq_of_lt (by omega)]; omega
    have hrl := r.isLt
    rw [← hp]
    rw [h2] at *
    rcases toInt_cases hn a with ⟨h1, h3, h4⟩ | ⟨h1, h3, h4⟩ <;>
      rcases toInt_cases hn b with ⟨k1, k3, k4⟩ | ⟨k1, k3, k4⟩ <;>
      rcases toInt_cases hn r with ⟨l1, l3, l4⟩ | ⟨l1, l3, l4⟩ <;>
      rw [h1, k1, l1, h3, k3] <;> (try rw [h2i, ← hp]) <;> (try simp) <;> omega
  result := szp_result f _
  control := szp_control f (addF a b c f).1

/-- `Sub` computes the difference and its flags. -/
theorem subF_says {n : Nat} (hn : 0 < n) (a b : BitVec n) (c : Bool) (f : Flags) :
    SubSays a b c f (subF a b c f).2 (subF a b c f).1 where
  value := by
    have ha := a.isLt
    have hb := b.isLt
    have : ((a - b - BitVec.ofNat n c.toNat) + b + BitVec.ofNat n c.toNat) = a := by
      ring
    have := congrArg BitVec.toNat this
    simpa [subF, Nat.add_mod] using this
  borrow := by simp [subF]
  auxiliary := by simp [subF]
  overflow := by
    have h2 : 2 ^ n = 2 * 2 ^ (n - 1) := by rw [← pow_succ']; congr 1; omega
    have h2i : (2 : Int) ^ n = 2 * 2 ^ (n - 1) := by exact_mod_cast h2
    have hp : ((2 ^ (n - 1) : Nat) : Int) = 2 ^ (n - 1) := by push_cast; rfl
    have hc : c.toNat ≤ 1 := by cases c <;> decide
    have ha := a.isLt
    have hb := b.isLt
    have hn1 : 1 ≤ 2 ^ (n - 1) := Nat.one_le_two_pow
    simp only [subF, FitsSigned, Bool.and_eq_true, bne_iff_ne]
    have hv : ((a - b - BitVec.ofNat n c.toNat).toNat + b.toNat + c.toNat) % 2 ^ n = a.toNat := by
      have : ((a - b - BitVec.ofNat n c.toNat) + b + BitVec.ofNat n c.toNat) = a := by
        ring
      have := congrArg BitVec.toNat this
      simpa [Nat.add_mod] using this
    generalize a - b - BitVec.ofNat n c.toNat = r at *
    have hrl := r.isLt
    have hr' : r.toNat + b.toNat + c.toNat = a.toNat ∨ r.toNat + b.toNat + c.toNat = a.toNat + 2 ^ n := by
      by_cases hl : r.toNat + b.toNat + c.toNat < 2 ^ n
      · left; rwa [Nat.mod_eq_of_lt hl] at hv
      · right
        by_cases hl2 : r.toNat + b.toNat + c.toNat < 2 * 2 ^ n
        · rw [Nat.mod_eq_sub_mod (by omega), Nat.mod_eq_of_lt (by omega)] at hv; omega
        · omega
    rw [← hp]
    rw [h2] at *
    rcases toInt_cases hn a with ⟨h1, h3, h4⟩ | ⟨h1, h3, h4⟩ <;>
      rcases toInt_cases hn b with ⟨k1, k3, k4⟩ | ⟨k1, k3, k4⟩ <;>
      rcases toInt_cases hn r with ⟨l1, l3, l4⟩ | ⟨l1, l3, l4⟩ <;>
      rw [h1, k1, l1, h3, k3] <;> (try rw [h2i, ← hp]) <;> (try simp) <;> omega
  result := szp_result f _
  control := szp_control f (subF a b c f).1

/-- The flags of a logical operation. -/
theorem logicF_says {n : Nat} (d : Nat) (r : BitVec n) (f : Flags) : LogicSays r f (logicF d r f) where
  overflow := rfl
  carry := rfl
  result := szp_result f _
  control := szp_control f r

end Sys2Proof.Machine
end

