-- ==== Sys2Proof/Laws/Strings.lean ====
section
/-!
SUPPORT. All that one string primitive does (43 R480-R486; 46 R614, R615), and what every string instruction runs.
-/

namespace Sys2Proof.Machine

theorem execPlain (s : State) (op : StrOp) (wide : Bool) : exec (op.plain wide) s = strRun s op wide s.cur.rep := by
  cases op <;> cases wide <;> rfl

theorem execWithF3 (s : State) (op : StrOp) (wide : Bool) : exec (op.withF3 wide) s = strRun s op wide (some .repe) := by
  cases op <;> cases wide <;> rfl

/-- What an instruction runs that is the primitive `op` repeated by `r`. -/
theorem Repeats.exec_eq {s : State} {op : StrOp} {wide : Bool} {i : Instr} {r : Rep} (h : Repeats s op wide i r) :
    exec i s = strRun s op wide (some r) := by
  cases h with
  | f3 => exact execWithF3 s op wide
  | f2Cmps h => subst h; cases wide <;> rfl
  | f2Scas h => subst h; cases wide <;> rfl
  | apart r h => rw [execPlain, h]

/-- The checks of a run pass when the accesses of its primitive are allowed. -/
theorem StrReady.check {s : State} {op : StrOp} {wide : Bool} (h : StrReady s op wide) (rep : Option Rep) :
    s.checkStr op wide rep = .ok () := by
  have h2 : s.checkStrSrc op wide = .ok () := by
    unfold State.checkStrSrc; split
    · rename_i hi; exact h.source hi
    · rfl
  have h3 : s.checkStrDest op wide = .ok () := by
    unfold State.checkStrDest; split
    · rename_i hi; exact h.destination hi
    · rfl
  have h4 : (do s.checkStrSrc op wide; s.checkStrDest op wide : Except Exn Unit) = .ok () := bind_ok.2 ⟨h2, h3⟩
  unfold State.checkStr
  cases hi : op.isIo
  · cases hd : s.repDone rep
    · exact h4
    · rfl
  · have h1 : s.checkTrusted = .ok () := by simp [State.checkTrusted, h.trusted hi]
    cases hd : s.repDone rep
    · simp only [if_pos, h1]; exact h4
    · simp only [if_pos, h1]; rfl

theorem State.add_strDelta (s : State) (x : Word) (wide : Bool) :
    x + s.strDelta wide =
      if s.flags.df then x - BitVec.ofNat 16 (elemBytes wide) else x + BitVec.ofNat 16 (elemBytes wide) := by
  unfold State.strDelta
  split
  · rw [BitVec.sub_eq_add_neg]
  · rfl

/-- A stored element is where it was stored, and nowhere else. -/
theorem StoredElement.of_store {s t : State} (h : Canonical s) (wide : Bool) (v : Word)
    (hm : t.mem = (s.strStore .es (s.reg .di) wide v).mem) : StoredElement s t wide v := by
  cases wide
  · refine ⟨fun hr => ?_, fun k hk => ?_⟩ <;> rw [hm]
    · exact State.writeByte_holds h _ _ hr
    · exact State.writeByte_frame s _ _ k hk
  · refine ⟨⟨fun hr => ?_, fun hr => ?_⟩, fun k hk => ?_⟩ <;> rw [hm]
    · exact (State.writeWord_holds h _ _).1 hr
    · exact (State.writeWord_holds h _ _).2 hr
    · exact State.writeWord_frame s _ _ k hk

theorem ComparedElements.of_strFlags (wide : Bool) (a b : Word) (f : Flags) :
    ComparedElements wide a b f (strFlags wide a b f) := by
  cases wide
  · exact ⟨_, subF_says (by omega) _ _ _ _⟩
  · exact ⟨_, subF_says (by omega) _ _ _ _⟩

theorem strFlags_df (wide : Bool) (a b : Word) (f : Flags) : (strFlags wide a b f).df = f.df := by
  cases wide <;> rfl

/-- A port read changes the history of the I/O space only. -/
theorem State.afterPortWord_eq (s : State) (p : Word) :
    s.afterPortWord p = { s with ioLog := (s.afterPortWord p).ioLog } := by
  unfold State.afterPortWord; split <;> rfl

/-- A port write changes the history of the I/O space only. -/
theorem State.outWord_eq (s : State) (p v : Word) : s.outWord p v = { s with ioLog := (s.outWord p v).ioLog } := by
  unfold State.outWord; split <;> rfl

theorem State.afterStrIn_eq (s : State) (wide : Bool) :
    s.afterStrIn wide = { s with ioLog := (s.afterStrIn wide).ioLog } := by
  cases wide
  · rfl
  · exact s.afterPortWord_eq _

theorem State.strOut_eq (s : State) (wide : Bool) (v : Word) :
    s.strOut wide v = { s with ioLog := (s.strOut wide v).ioLog } := by
  cases wide
  · rfl
  · exact s.outWord_eq _ _

theorem State.strStore_eq (s : State) (r : SReg) (o : Word) (wide : Bool) (v : Word) :
    s.strStore r o wide v = { s with mem := (s.strStore r o wide v).mem } := by
  cases wide <;> rfl

/-- The data part of a primitive: registers, flags, memory and the I/O history at most. -/
theorem State.strData_eq (s : State) (op : StrOp) (wide : Bool) :
    s.strData op wide = { s with
      regs := (s.strData op wide).regs, flags := (s.strData op wide).flags, mem := (s.strData op wide).mem,
      ioLog := (s.strData op wide).ioLog } := by
  cases op
  · cases wide <;> rfl
  · rfl
  · rfl
  · cases wide <;> rfl
  · cases wide <;> rfl
  · simp only [State.strData]
    rw [State.strStore_eq, s.afterStrIn_eq]
  · simp only [State.strData]
    rw [State.strOut_eq]

theorem State.strData_regs (s : State) (op : StrOp) (wide : Bool) :
    (s.strData op wide).regs =
      if op = .lods then (s.setAcc wide (s.strLoad s.strSrc (s.reg .si) wide)).regs else s.regs := by
  cases op
  · rw [State.strData, State.strStore_eq]; rfl
  · rfl
  · rfl
  · rfl
  · rw [State.strData, State.strStore_eq]; rfl
  · rw [State.strData, State.strStore_eq, s.afterStrIn_eq]; rfl
  · rw [State.strData, State.strOut_eq]; rfl

theorem State.strData_flags (s : State) (op : StrOp) (wide : Bool) :
    (s.strData op wide).flags.df = s.flags.df ∧ (op.compares = false → (s.strData op wide).flags = s.flags) := by
  cases op
  · rw [State.strData, State.strStore_eq]; exact ⟨rfl, fun _ => rfl⟩
  · exact ⟨strFlags_df _ _ _ _, fun h => absurd h (by decide)⟩
  · exact ⟨strFlags_df _ _ _ _, fun h => absurd h (by decide)⟩
  · cases wide <;> exact ⟨rfl, fun _ => rfl⟩
  · rw [State.strData, State.strStore_eq]; exact ⟨rfl, fun _ => rfl⟩
  · rw [State.strData, State.strStore_eq, s.afterStrIn_eq]; exact ⟨rfl, fun _ => rfl⟩
  · rw [State.strData, State.strOut_eq]; exact ⟨rfl, fun _ => rfl⟩

/-- The pointer advance writes SI and DI only. -/
theorem State.strAdvance_eq (s : State) (op : StrOp) (wide : Bool) :
    s.strAdvance op wide = { s with regs := (s.strAdvance op wide).regs } := by
  cases op <;> rfl

/-- A state that agrees with the primitive's on all but CX and IP shows its whole effect. -/
theorem StrEffect.of_strStep {s u : State} (h : Canonical s) (op : StrOp) (wide : Bool)
    (hr : ∀ r, r ≠ .cx → u.reg r = (s.strStep op wide).reg r) (hf : u.flags = (s.strStep op wide).flags)
    (hm : u.mem = (s.strStep op wide).mem) (hl : u.ioLog = (s.strStep op wide).ioLog)
    (hs : u.msw = s.msw ∧ SameSegs s u ∧ SameTables s u ∧ SameHidden { s with ioLog := u.ioLog } u) :
    StrEffect s u op wide := by
  have e := (s.strData op wide).strAdvance_eq op wide
  have hfd : (s.strStep op wide).flags = (s.strData op wide).flags := by rw [State.strStep, e]
  have hmd : (s.strStep op wide).mem = (s.strData op wide).mem := by rw [State.strStep, e]
  have hld : (s.strStep op wide).ioLog = (s.strData op wide).ioLog := by rw [State.strStep, e]
  rw [hfd] at hf; rw [hmd] at hm; rw [hld] at hl
  have hdr := s.strData_regs op wide
  have hdf := s.strData_flags op wide
  have key : ∀ r, r ≠ .cx → r ≠ .si → r ≠ .di → u.reg r = (s.strData op wide).reg r := by
    intro r h1 h2 h3
    rw [hr r h1]
    cases op <;> cases r <;> first | contradiction | rfl
  have keep : ∀ r, r ≠ .ax → (s.strData op wide).reg r = s.reg r := by
    intro r h1
    unfold State.reg
    rw [hdr]
    split
    · cases wide <;> cases r <;> first | contradiction | rfl
    · rfl
  have hsi : u.reg .si = if op.hasSource then (s.strData op wide).reg .si + (s.strData op wide).strDelta wide
      else (s.strData op wide).reg .si := by
    rw [hr .si (by decide)]
    cases op <;> rfl
  have hdi : u.reg .di = if op.hasDest then (s.strData op wide).reg .di + (s.strData op wide).strDelta wide
      else (s.strData op wide).reg .di := by
    rw [hr .di (by decide)]
    cases op <;> rfl
  constructor
  · rw [hsi, keep .si (by decide), State.add_strDelta, hdf.1]
  · rw [hdi, keep .di (by decide), State.add_strDelta, hdf.1]
  · rintro rfl
    have := key .ax (by decide) (by decide) (by decide)
    cases wide
    · refine ⟨?_, ?_⟩
      · show (u.reg .ax).lo = _
        rw [this]
        show (s.setReg8 .al _).reg8 .al = _
        rw [State.setReg8_reg8_same]
        simp only [State.strLoad, State.strSrc]
        apply BitVec.eq_of_toNat_eq
        simp [zext16, Word.lo]
      · show (u.reg .ax).hi = _
        rw [this]
        exact State.setReg8_reg8_ne s (r := .al) (q := .ah) (by decide) _
    · exact this
  · intro hop
    rw [key .ax (by decide) (by decide) (by decide)]
    unfold State.reg
    rw [hdr, if_neg hop]
  · intro r hr'
    simp only [List.mem_cons, not_or] at hr'
    rw [key r hr'.2.1 hr'.2.2.1 hr'.2.2.2.1, keep r hr'.1]
  · rintro rfl; exact StoredElement.of_store h _ _ hm
  · rintro rfl; exact StoredElement.of_store h _ _ hm
  · rintro rfl
    have hm' : u.mem = (s.strStore .es (s.reg .di) wide (s.strIn wide)).mem := by
      rw [hm, State.strData, s.afterStrIn_eq]
      cases wide <;> rfl
    refine ⟨StoredElement.of_store h _ _ hm', ?_⟩
    rw [hl, State.strData, State.strStore_eq]
  · rintro rfl; exact hl
  · intro hio
    rw [hl]
    cases op <;> first
      | contradiction
      | (rw [State.strData, State.strStore_eq])
      | rfl
      | (cases wide <;> rfl)
  · intro hw k _
    rw [hm]
    cases op <;> first
      | contradiction
      | rfl
      | (cases wide <;> rfl)
      | (rw [State.strData, State.strOut_eq])
  · rintro rfl; rw [hf]; exact ComparedElements.of_strFlags _ _ _ _
  · rintro rfl; rw [hf]; exact ComparedElements.of_strFlags _ _ _ _
  · intro hc; rw [hf]; exact hdf.2 hc
  · exact hs

end Sys2Proof.Machine
end

