-- ==== Sys2Proof/Laws/Keep.lean ====
section
/-!
SUPPORT. What every shared operation keeps: the canonical form of memory, PE, MP and EM, GDTR and IDTR. Taking an
exception, returning from one, far transfers and task switches are among them, whatever they do besides.
-/

namespace Sys2Proof.Machine

/-- `t` has kept what no shared operation changes. -/
structure Kept (s t : State) : Prop where
  canonical : Canonical s → Canonical t
  pe : t.msw.pe = s.msw.pe
  mp : t.msw.mp = s.msw.mp
  em : t.msw.em = s.msw.em
  gdtr : t.gdtr = s.gdtr
  idtr : t.idtr = s.idtr

theorem Kept.refl (s : State) : Kept s s := ⟨id, rfl, rfl, rfl, rfl, rfl⟩

theorem Kept.trans {s t u : State} (h : Kept s t) (k : Kept t u) : Kept s u :=
  ⟨fun x => k.canonical (h.canonical x), k.pe.trans h.pe, k.mp.trans h.mp, k.em.trans h.em, k.gdtr.trans h.gdtr,
    k.idtr.trans h.idtr⟩

/-- Everything else may have changed. -/
theorem Kept.of_eq {s t : State} (hm : t.mem = s.mem) (hw : t.msw = s.msw) (hg : t.gdtr = s.gdtr)
    (hi : t.idtr = s.idtr) : Kept s t :=
  ⟨fun h => by unfold Canonical; rw [hm]; exact h, by rw [hw], by rw [hw], by rw [hw], hg, hi⟩

/-- An operation that may raise an exception in the state before it. -/
def KeptE (s : State) (r : Except Exn State) : Prop := ∀ t, r = .ok t → Kept s t

/-- An operation that may raise an exception in another state. -/
def KeptT (s : State) (r : Except Trap State) : Prop :=
  (∀ t, r = .ok t → Kept s t) ∧ ∀ x, r = .error x → Kept s x.st

/-- A meaning. -/
def KeptOut (s : State) (o : Out) : Prop := ∀ t, o = .next t → Kept s t

theorem KeptE.ok {s t : State} (h : Kept s t) : KeptE s (.ok t) := fun _ e => by cases e; exact h
theorem KeptE.error {s : State} {x : Exn} : KeptE s (.error x) := fun _ e => by cases e
theorem KeptE.bind {s : State} {α : Type} {a : Except Exn α} {f : α → Except Exn State} (h : ∀ x, KeptE s (f x)) :
    KeptE s (a >>= f) := by
  cases a with
  | ok x => exact h x
  | error e => exact KeptE.error

theorem KeptT.ok {s t : State} (h : Kept s t) : KeptT s (.ok t) :=
  ⟨fun _ e => (by cases e; exact h), fun _ e => (by cases e)⟩
theorem KeptT.error {s : State} {x : Trap} (h : Kept s x.st) : KeptT s (.error x) :=
  ⟨fun _ e => (by cases e), fun _ e => (by cases e; exact h)⟩
/-- A check, or the reading of something, raised in `u`. -/
theorem KeptT.check {s u : State} {α : Type} {a : Except Exn α} {f : α → Except Trap State} (hu : Kept s u)
    (h : ∀ x, KeptT s (f x)) : KeptT s (onFail u a >>= f) := by
  cases a with
  | ok x => exact h x
  | error e => exact KeptT.error hu
theorem KeptT.onFail {s u : State} {r : Except Exn State} (hu : Kept s u) (h : KeptE s r) : KeptT s (onFail u r) := by
  cases r with
  | ok t => exact KeptT.ok (h t rfl)
  | error e => exact KeptT.error hu
theorem KeptT.bind {s : State} {r : Except Trap State} {f : State → Except Trap State} (h : KeptT s r)
    (k : ∀ t, Kept s t → KeptT s (f t)) : KeptT s (r >>= f) := by
  cases r with
  | ok t => exact k t (h.1 t rfl)
  | error e => exact KeptT.error (h.2 e rfl)
theorem KeptT.step {s u : State} {r : Except Exn State} {f : State → Except Trap State} (hu : Kept s u)
    (h : ∀ t, r = .ok t → Kept s t) (k : ∀ t, Kept s t → KeptT s (f t)) :
    KeptT s (Sys2Proof.Machine.onFail u r >>= f) :=
  KeptT.bind (KeptT.onFail hu h) k

/-! ### Memory, segments, stack -/

theorem State.writeByte_kept (s : State) (a : Addr) (v : Byte) : Kept s (s.writeByte a v) :=
  ⟨fun h => State.writeByte_wf h a v, rfl, rfl, rfl, rfl, rfl⟩
theorem State.writeWord_kept (s : State) (a : Addr) (v : Word) : Kept s (s.writeWord a v) :=
  ⟨fun h => State.writeWord_wf h a v, rfl, rfl, rfl, rfl, rfl⟩
theorem State.poke8_kept (s : State) (r : SReg) (o : Word) (v : Byte) : Kept s (s.poke8 r o v) := s.writeByte_kept ..
theorem State.poke16_kept (s : State) (r : SReg) (o v : Word) : Kept s (s.poke16 r o v) := s.writeWord_kept ..
theorem State.push_kept (s : State) (v : Word) : Kept s (s.push v) :=
  (s.poke16_kept .ss (s.spDown 2) v).trans (Kept.of_eq rfl rfl rfl rfl)
theorem State.pushes_kept (l : List Word) : ∀ s : State, Kept s (s.pushes l) := by
  induction l with
  | nil => exact Kept.refl
  | cons w t ih => exact fun s => (s.push_kept w).trans (ih _)
theorem State.pushErr_kept (s : State) (e : Option Word) : Kept s (s.pushErr e) := by
  cases e
  · exact Kept.refl s
  · exact s.push_kept _
theorem State.setSeg_kept (s : State) (r : SReg) (g : Seg) : Kept s (s.setSeg r g) := by
  cases r <;> exact Kept.of_eq rfl rfl rfl rfl
theorem State.setReg_kept (s : State) (r : Reg16) (v : Word) : Kept s (s.setReg r v) := Kept.of_eq rfl rfl rfl rfl
theorem State.setIp_kept (s : State) (w : Word) : Kept s (s.setIp w) := Kept.of_eq rfl rfl rfl rfl
theorem State.setFlags_kept (s : State) (f : Flags) : Kept s (s.setFlags f) := Kept.of_eq rfl rfl rfl rfl
theorem State.popBytes_kept (s : State) (k : Word) : Kept s (s.popBytes k) := Kept.of_eq rfl rfl rfl rfl
theorem State.setAccessByte_kept (s : State) (x : Word) (a : Byte) : Kept s (s.setAccessByte x a) :=
  s.writeByte_kept ..
theorem State.setAccessed_kept (s : State) (x : Word) (d : Desc) : Kept s (s.setAccessed x d) := s.writeByte_kept ..
theorem State.loadSeg_kept (s : State) (r : SReg) (x : Word) (d : Desc) : Kept s (s.loadSeg r x d) :=
  (s.setAccessed_kept x d).trans (State.setSeg_kept ..)
theorem State.loadCs_kept (s : State) (x : Word) (d : Desc) (p : BitVec 2) : Kept s (s.loadCs x d p) :=
  (s.setAccessed_kept x d).trans (State.setSeg_kept ..)
theorem State.nullIfInner_kept (s : State) (r : SReg) (p : BitVec 2) : Kept s (s.nullIfInner r p) := by
  unfold State.nullIfInner
  split
  · exact Kept.refl s
  · exact s.setSeg_kept ..
theorem State.farJumpReal_kept (s : State) (x o : Word) : Kept s (s.farJumpReal x o) := Kept.of_eq rfl rfl rfl rfl
theorem State.applySreg_kept (s : State) (r : SReg) (x : Word) : Kept s (s.applySreg r x) := by
  unfold State.applySreg
  split
  · exact s.setSeg_kept ..
  · split
    · exact s.setSeg_kept ..
    · exact s.loadSeg_kept ..
theorem State.applyLdt_kept (s : State) (x : Word) : Kept s (s.applyLdt x) := Kept.of_eq rfl rfl rfl rfl
theorem State.applyTr_kept (s : State) (x : Word) : Kept s (s.applyTr x) :=
  (s.setAccessByte_kept x _).trans (Kept.of_eq rfl rfl rfl rfl)
theorem State.putEb_kept (s : State) (e : Eb) (v : Byte) : Kept s (s.putEb e v) := by
  cases e
  · exact Kept.of_eq rfl rfl rfl rfl
  · exact s.poke8_kept ..
theorem State.putEw_kept (s : State) (e : Ew) (v : Word) : Kept s (s.putEw e v) := by
  cases e
  · exact Kept.of_eq rfl rfl rfl rfl
  · exact s.poke16_kept ..

/-! ### The task switch (47 R694) -/

theorem State.tssWrite_kept (s : State) (o : Nat) (v : Word) : Kept s (s.tssWrite o v) := s.writeWord_kept ..

theorem Kept.tssWrite {s t : State} (h : Kept s t) (o : Nat) (v : Word) : Kept s (t.tssWrite o v) :=
  h.trans (t.tssWrite_kept o v)

theorem State.saveTask_kept (s : State) (ip : Word) (f : Flags) : Kept s (s.saveTask ip f) := by
  unfold State.saveTask
  repeat' apply Kept.tssWrite
  exact Kept.refl s

theorem State.loadTask_kept (s : State) (k : SwitchKind) : Kept s (s.loadTask k) := ⟨id, rfl, rfl, rfl, rfl, rfl⟩

theorem State.commitSwitch_kept (s : State) (n : Word) (d : Desc) (k : SwitchKind) (ip : Word) :
    Kept s (s.commitSwitch n d k ip) := by
  unfold State.commitSwitch
  refine Kept.trans ?_ (State.loadTask_kept _ k)
  refine Kept.trans (t := if k.nests then _ else _) ?_ (Kept.of_eq rfl rfl rfl rfl)
  have h := (s.setAccessByte_kept n (d.access ||| 2)).trans
    (State.saveTask_kept _ ip (if k = .iret then { s.flags with nt := false } else s.flags))
  split
  · exact h.trans (State.writeWord_kept ..)
  · exact h.trans (State.setAccessByte_kept ..)

theorem State.taskLdt_kept (s : State) (e : Bool) : KeptE s (s.taskLdt e) := by
  unfold State.taskLdt
  dsimp only
  split
  · exact KeptE.ok (Kept.refl s)
  · exact KeptE.bind fun _ => KeptE.bind fun _ => KeptE.bind fun _ => KeptE.bind fun _ =>
      KeptE.ok (Kept.of_eq rfl rfl rfl rfl)

theorem State.taskSs_kept (s : State) (e : Bool) : KeptE s (s.taskSs e) :=
  KeptE.bind fun _ => KeptE.ok (s.loadSeg_kept ..)

theorem State.taskCs_kept (s : State) (e : Bool) : KeptE s (s.taskCs e) :=
  KeptE.bind fun _ => KeptE.bind fun _ => KeptE.bind fun _ => KeptE.bind fun _ => KeptE.bind fun _ =>
    KeptE.ok (s.loadCs_kept ..)

theorem State.taskData_kept (s : State) (r : SReg) (e : Bool) : KeptE s (s.taskData r e) := by
  unfold State.taskData
  dsimp only
  split
  · exact KeptE.ok (Kept.refl s)
  · exact KeptE.bind fun _ => KeptE.ok (s.loadSeg_kept ..)

theorem State.switchTasks_kept (s : State) (n : Word) (d : Desc) (k : SwitchKind) (ip : Word) (e : Bool) :
    KeptT s (s.switchTasks n d k ip e) := by
  unfold State.switchTasks
  refine KeptT.check (Kept.refl s) fun _ => KeptT.check (Kept.refl s) fun _ => ?_
  have h0 := s.commitSwitch_kept n d k ip
  refine KeptT.step h0 (fun t e => h0.trans (State.taskLdt_kept _ _ t e)) fun s1 h1 => ?_
  refine KeptT.step h1 (fun t e => h1.trans (State.taskSs_kept _ _ t e)) fun s2 h2 => ?_
  refine KeptT.step h2 (fun t e => h2.trans (State.taskCs_kept _ _ t e)) fun s3 h3 => ?_
  refine KeptT.step h3 (fun t e => h3.trans (State.taskData_kept _ _ _ t e)) fun s4 h4 => ?_
  exact KeptT.onFail h4 fun t e => h4.trans (State.taskData_kept _ _ _ t e)

theorem State.checkTaskIp_kept {s t : State} (h : Kept s t) (e : Bool) : KeptT s (t.checkTaskIp e) :=
  KeptT.check h fun _ => KeptT.ok h

/-! ### Taking an exception -/

theorem State.enterShutdown_kept (s : State) : Kept s s.enterShutdown := Kept.of_eq rfl rfl rfl rfl
theorem State.resume_kept (s : State) : Kept s s.resume := Kept.of_eq rfl rfl rfl rfl

theorem pushAllReal_kept (l : List Word) : ∀ s : State,
    (∀ t, pushAllReal l s = .ok t → Kept s t) ∧ ∀ t, pushAllReal l s = .error t → Kept s t := by
  induction l with
  | nil => exact fun s => ⟨fun t e => by cases e; exact Kept.refl s, fun t e => by cases e⟩
  | cons w l ih =>
    intro s
    unfold pushAllReal
    split
    · exact ⟨fun t e => (s.push_kept w).trans ((ih _).1 t e), fun t e => (s.push_kept w).trans ((ih _).2 t e)⟩
    · exact ⟨fun t e => (by cases e), fun t e => by cases e; exact Kept.refl s⟩

theorem State.enterReal_kept (s : State) (n : Byte) (ip : Word) : Kept s (s.enterReal n ip) := by
  have h := pushAllReal_kept [s.flags.toWord, s.cs.sel, ip] s
  unfold State.enterReal
  split
  · rename_i t e
    exact (h.2 t e).trans t.enterShutdown_kept
  · rename_i t e
    exact (h.1 t e).trans (Kept.of_eq rfl rfl rfl rfl)

theorem State.deliverReal_kept (s : State) (n : Byte) (ip : Word) : Kept s (s.deliverReal n ip) := by
  unfold State.deliverReal
  split
  · exact s.enterReal_kept ..
  · split
    · exact s.enterShutdown_kept
    · split
      · exact s.enterReal_kept ..
      · exact s.enterShutdown_kept

theorem State.enterSame_kept (s : State) (ev : Event) (g : Desc) (c : Word) : KeptE s (s.enterSame ev g c) := by
  unfold State.enterSame
  exact KeptE.bind fun _ => KeptE.bind fun _ => KeptE.ok <|
    ((((s.push_kept _).trans (State.push_kept ..)).trans (State.push_kept ..)).trans (State.loadCs_kept ..)).trans <|
      (State.setIp_kept ..).trans <| (State.pushErr_kept ..).trans (State.setFlags_kept ..)

theorem State.switchStack_kept (s : State) (ss sp : Word) (d : Desc) : Kept s (s.switchStack ss sp d) :=
  (s.loadSeg_kept ..).trans (State.setReg_kept ..)

theorem State.enterInner_kept (s : State) (ev : Event) (g : Desc) (c : Word) : KeptE s (s.enterInner ev g c) := by
  unfold State.enterInner
  exact KeptE.bind fun _ => KeptE.bind fun _ => KeptE.bind fun _ => KeptE.bind fun _ => KeptE.ok <|
    (s.switchStack_kept ..).trans <| (State.loadCs_kept ..).trans <| (State.setIp_kept ..).trans <|
      (State.push_kept ..).trans <| (State.push_kept ..).trans <| (State.push_kept ..).trans <|
        (State.push_kept ..).trans <| (State.push_kept ..).trans <| (State.pushErr_kept ..).trans
          (State.setFlags_kept ..)

theorem State.enterGate_kept (s : State) (ev : Event) (g : Desc) : KeptE s (s.enterGate ev g) := by
  unfold State.enterGate
  refine KeptE.bind fun _ => KeptE.bind fun _ => KeptE.bind fun _ => KeptE.bind fun _ => ?_
  split
  · exact s.enterInner_kept _ _ _
  · exact KeptE.bind fun _ => s.enterSame_kept _ _ _

theorem State.enterTask_kept (s : State) (ev : Event) (g : Desc) : KeptT s (s.enterTask ev g) := by
  unfold State.enterTask
  refine KeptT.check (Kept.refl s) fun _ => KeptT.bind (s.switchTasks_kept ..) fun t h => ?_
  exact KeptT.check h fun _ => State.checkTaskIp_kept (h.trans (t.pushErr_kept _)) _

theorem State.deliverProt_kept (s : State) (ev : Event) : KeptT s (s.deliverProt ev) := by
  unfold State.deliverProt
  refine KeptT.check (Kept.refl s) fun _ => ?_
  dsimp only
  split
  · exact KeptT.bind (s.enterTask_kept ..) fun t h => KeptT.ok (h.trans t.resume_kept)
  · exact KeptT.step (Kept.refl s) (s.enterGate_kept _ _) fun t h => KeptT.ok (h.trans t.resume_kept)

theorem State.doubleFault_kept (s : State) : Kept s s.doubleFault := by
  have h := s.deliverProt_kept { vec := 8, kind := .fault, retIp := s.ip, err := some 0 }
  unfold State.doubleFault
  split
  · rename_i t e; exact h.1 t e
  · rename_i x e; exact (h.2 x e).trans x.st.enterShutdown_kept

theorem State.secondFault_kept (s : State) (e : Exn) : Kept s (s.secondFault e) := by
  cases e with
  | shutdown => exact s.enterShutdown_kept
  | trap v c =>
    have h := s.deliverProt_kept { vec := v, kind := .fault, retIp := s.ip, err := c }
    unfold State.secondFault
    split
    · contradiction
    · rename_i v' c' heq
      cases heq
      split
      · rename_i t e; exact h.1 t e
      · rename_i x e; exact (h.2 x e).trans x.st.doubleFault_kept

/-- Taking an exception or an interrupt, with all that may become of it. -/
theorem State.deliver_kept (s : State) (ev : Event) : Kept s (s.deliver ev) := by
  have h := s.deliverProt_kept ev
  unfold State.deliver
  split
  · exact s.deliverReal_kept ..
  · split
    · rename_i t e; exact h.1 t e
    · rename_i x e
      split
      · exact (h.2 x e).trans x.st.doubleFault_kept
      · exact (h.2 x e).trans (x.st.secondFault_kept _)

theorem State.raise_kept (s : State) (e : Exn) : Kept s (s.raise e) := by
  cases e with
  | shutdown => exact s.enterShutdown_kept
  | trap v c => exact s.deliver_kept _

theorem State.softInt_kept (s : State) (n : Byte) : Kept s (s.softInt n) := s.deliver_kept _
theorem State.extInt_kept (s : State) (n : Byte) : Kept s (s.extInt n) := s.deliver_kept _

/-! ### How a meaning ends -/

theorem KeptOut.next {s t : State} (h : Kept s t) : KeptOut s (.next t) := fun _ e => by cases e; exact h

theorem attempt_kept {s f t : State} {c : Except Exn Unit} (hf : Kept s f) (ht : Kept s t) :
    KeptOut s (attempt f c t) := by
  cases c
  · exact KeptOut.next (hf.trans (f.raise_kept _))
  · exact KeptOut.next ht

theorem attemptIn_kept {s f t : State} {c : Except Exn Unit} (hf : Kept s f) (ht : Kept s t) :
    KeptOut s (attemptIn f c t) := by
  cases c
  · exact KeptOut.next (hf.trans (f.raise_kept _))
  · exact KeptOut.next ht

theorem finish_kept {s : State} {r : Except Exn State} (h : KeptE s r) : KeptOut s (finish s r) := by
  cases r with
  | ok t => exact KeptOut.next (h t rfl)
  | error e => exact KeptOut.next (s.raise_kept _)

theorem finishT_kept {s : State} {r : Except Trap State} (h : KeptT s r) : KeptOut s (finishT r) := by
  cases r with
  | ok t => exact KeptOut.next (h.1 t rfl)
  | error x => exact KeptOut.next ((h.2 x rfl).trans (x.st.raise_kept _))

/-! ### Returns -/

theorem State.iretReal_kept (s : State) : KeptE s s.iretReal :=
  KeptE.bind fun _ => KeptE.ok (Kept.of_eq rfl rfl rfl rfl)

theorem State.applyOuter_kept (s : State) (a b c d : Word) : Kept s (s.applyOuter a b c d) :=
  (s.loadCs_kept ..).trans <| (State.setIp_kept ..).trans <| (State.loadSeg_kept ..).trans <|
    (State.setReg_kept ..).trans <| (State.nullIfInner_kept ..).trans (State.nullIfInner_kept ..)

theorem State.iretSame_kept (s : State) (c : Word) : KeptE s (s.iretSame c) := by
  unfold State.iretSame
  exact KeptE.bind fun _ => KeptE.bind fun _ => KeptE.bind fun _ => KeptE.ok <|
    (s.loadCs_kept ..).trans <| (State.setIp_kept ..).trans <| (State.setFlags_kept ..).trans (State.popBytes_kept ..)

theorem State.iretOuter_kept (s : State) (c : Word) : KeptE s (s.iretOuter c) :=
  KeptE.bind fun _ => KeptE.bind fun _ => KeptE.bind fun _ => KeptE.bind fun _ => KeptE.ok <|
    (s.applyOuter_kept ..).trans (State.setFlags_kept ..)

theorem State.iretStack_kept (s : State) : KeptE s s.iretStack := by
  unfold State.iretStack
  refine KeptE.bind fun _ => KeptE.bind fun _ => ?_
  split
  · exact s.iretSame_kept _
  · exact s.iretOuter_kept _

theorem State.iretTask_kept (s : State) : KeptT s s.iretTask := by
  unfold State.iretTask
  refine KeptT.check (Kept.refl s) fun b => KeptT.check (Kept.refl s) fun _ => ?_
  exact KeptT.bind (s.switchTasks_kept ..) fun t h => State.checkTaskIp_kept h _

theorem State.iret_kept (s : State) : KeptT s s.iret := by
  have end_ : ∀ t, Kept s t → KeptT s (pure t.unmaskNmi) := fun t h => KeptT.ok (h.trans (Kept.of_eq rfl rfl rfl rfl))
  unfold State.iret
  dsimp only
  split
  · exact KeptT.step (Kept.refl s) s.iretReal_kept end_
  · split
    · exact KeptT.bind s.iretTask_kept end_
    · exact KeptT.step (Kept.refl s) s.iretStack_kept end_

/-! ### Far transfers -/

theorem State.enterCode_kept (s : State) (c o : Word) : Kept s (s.enterCode c o) :=
  (s.loadCs_kept ..).trans (State.setIp_kept ..)

theorem State.farTss_kept (s : State) (c : Word) (k : SwitchKind) : KeptT s (s.farTss c k) :=
  KeptT.check (Kept.refl s) fun _ => KeptT.bind (s.switchTasks_kept ..) fun _ h => State.checkTaskIp_kept h _

theorem State.farTaskGate_kept (s : State) (c : Word) (k : SwitchKind) : KeptT s (s.farTaskGate c k) :=
  KeptT.check (Kept.refl s) fun _ => KeptT.check (Kept.refl s) fun _ => KeptT.check (Kept.refl s) fun _ =>
    KeptT.bind (s.switchTasks_kept ..) fun _ h => State.checkTaskIp_kept h _

theorem State.farJmpProt_kept (s : State) (c o : Word) : KeptT s (s.farJmpProt c o) := by
  unfold State.farJmpProt
  refine KeptT.check (Kept.refl s) fun _ => ?_
  dsimp only
  split
  · exact KeptT.check (Kept.refl s) fun _ => KeptT.ok (s.enterCode_kept ..)
  · split
    · exact KeptT.check (Kept.refl s) fun _ => KeptT.ok (s.enterCode_kept ..)
    · split
      · exact s.farTaskGate_kept ..
      · split
        · exact s.farTss_kept ..
        · exact KeptT.error (Kept.refl s)

theorem State.callCode_kept (s : State) (c o : Word) : Kept s (s.callCode c o) :=
  (s.push_kept _).trans <| (State.push_kept ..).trans <| (State.loadCs_kept ..).trans (State.setIp_kept ..)

theorem State.callInner_kept (s : State) (c a b : Word) : Kept s (s.callInner c a b) :=
  (s.switchStack_kept ..).trans <| (State.loadCs_kept ..).trans <| (State.setIp_kept ..).trans (State.pushes_kept _ _)

theorem State.farCallGate_kept (s : State) (c : Word) : KeptE s (s.farCallGate c) := by
  unfold State.farCallGate
  refine KeptE.bind fun _ => KeptE.bind fun _ => KeptE.bind fun _ => ?_
  split
  · exact KeptE.bind fun _ => KeptE.bind fun _ => KeptE.ok (s.callInner_kept ..)
  · exact KeptE.bind fun _ => KeptE.ok (s.callCode_kept ..)

theorem State.farCallProt_kept (s : State) (c o : Word) : KeptT s (s.farCallProt c o) := by
  unfold State.farCallProt
  refine KeptT.check (Kept.refl s) fun _ => ?_
  dsimp only
  split
  · exact KeptT.check (Kept.refl s) fun _ => KeptT.check (Kept.refl s) fun _ => KeptT.ok (s.callCode_kept ..)
  · split
    · exact KeptT.onFail (Kept.refl s) (s.farCallGate_kept _)
    · split
      · exact s.farTaskGate_kept ..
      · split
        · exact s.farTss_kept ..
        · exact KeptT.error (Kept.refl s)

theorem State.callFarReal_kept (s : State) (c o : Word) : Kept s (s.callFarReal c o) := by
  have h := pushAllReal_kept [s.cs.sel, s.nextIp] s
  unfold State.callFarReal
  split
  · rename_i t e; exact (h.1 t e).trans (t.farJumpReal_kept ..)
  · rename_i t e; exact (h.2 t e).trans t.enterShutdown_kept

theorem State.jmpFar_kept (s : State) (c o : Word) : KeptT s (s.jmpFar c o) := by
  unfold State.jmpFar
  split
  · exact s.farJmpProt_kept ..
  · exact KeptT.ok (s.farJumpReal_kept ..)

theorem State.callFar_kept (s : State) (c o : Word) : KeptT s (s.callFar c o) := by
  unfold State.callFar
  split
  · exact s.farCallProt_kept ..
  · exact KeptT.ok (s.callFarReal_kept ..)

theorem State.farRetProt_kept (s : State) (k : Word) : KeptE s (s.farRetProt k) := by
  unfold State.farRetProt
  refine KeptE.bind fun _ => KeptE.bind fun _ => ?_
  split
  · exact KeptE.bind fun _ => KeptE.ok ((s.enterCode_kept ..).trans (State.popBytes_kept ..))
  · exact KeptE.bind fun _ => KeptE.ok (s.applyOuter_kept ..)

theorem State.retFar_kept (s : State) (k : Word) : KeptE s (s.retFar k) := by
  unfold State.retFar
  split
  · exact s.farRetProt_kept _
  · exact KeptE.bind fun _ => KeptE.ok (Kept.of_eq rfl rfl rfl rfl)

/-! ### Strings -/

theorem State.strStore_kept (s : State) (r : SReg) (o : Word) (wide : Bool) (v : Word) :
    Kept s (s.strStore r o wide v) := by
  cases wide
  · exact s.poke8_kept ..
  · exact s.poke16_kept ..

theorem State.strData_kept (s : State) (op : StrOp) (wide : Bool) : Kept s (s.strData op wide) := by
  cases op
  · exact s.strStore_kept ..
  · exact Kept.of_eq rfl rfl rfl rfl
  · exact Kept.of_eq rfl rfl rfl rfl
  · cases wide <;> exact Kept.of_eq rfl rfl rfl rfl
  · exact s.strStore_kept ..
  · refine Kept.trans ?_ (State.strStore_kept ..)
    rw [s.afterStrIn_eq]; exact Kept.of_eq rfl rfl rfl rfl
  · rw [State.strData, State.strOut_eq]; exact Kept.of_eq rfl rfl rfl rfl

theorem State.strStep_kept (s : State) (op : StrOp) (wide : Bool) : Kept s (s.strStep op wide) := by
  refine (s.strData_kept op wide).trans ?_
  rw [State.strStep, State.strAdvance_eq]; exact Kept.of_eq rfl rfl rfl rfl

theorem State.strFaultState_kept (s : State) (op : StrOp) (wide : Bool) : Kept s (s.strFaultState op wide) := by
  unfold State.strFaultState
  split
  · refine Kept.trans (t := s.strScatterOther op wide) ?_ (Kept.of_eq rfl rfl rfl rfl)
    cases op with
    | lods => cases wide <;> exact Kept.of_eq rfl rfl rfl rfl
    | ins =>
      simp only [State.strScatterOther]
      split
      · rw [s.afterStrIn_eq]; exact Kept.of_eq rfl rfl rfl rfl
      · exact Kept.refl s
    | _ => exact Kept.of_eq rfl rfl rfl rfl
  · exact Kept.refl s

/-- A string instruction, repeated or not, faulting or not. -/
theorem strRun_kept (s : State) (op : StrOp) (wide : Bool) (rep : Option Rep) : KeptOut s (strRun s op wide rep) := by
  refine attemptIn_kept (s.strFaultState_kept op wide) ?_
  unfold State.strNext
  split
  · exact Kept.of_eq rfl rfl rfl rfl
  · split
    · exact (s.strStep_kept op wide).trans (Kept.of_eq rfl rfl rfl rfl)
    · refine (s.strStep_kept op wide).trans ?_
      unfold State.strIter
      dsimp only
      split <;> exact Kept.of_eq rfl rfl rfl rfl

end Sys2Proof.Machine
end

