-- ==== Sys2Proof/Laws/Cycle.lean ====
section
/-!
SUPPORT. The decoding loop and the step at a quiet boundary: what is fetched, one round of the loop, and what the events
of a boundary keep.
-/

namespace Sys2Proof.Machine

/-- Fetching reads CS, the mode, memory, the environment and whether the code segment is used up. -/
theorem State.fetch_congr {s t : State} (h1 : t.msw = s.msw) (h2 : t.cs = s.cs) (h3 : t.mem = s.mem)
    (h4 : t.env = s.env) (h5 : t.pastEnd = s.pastEnd) : ∀ k o, t.fetch k o = s.fetch k o := by
  intro k
  induction k with
  | zero => intro o; rfl
  | succ k ih =>
    intro o
    have hu : t.segUsable .cs = s.segUsable .cs := by unfold State.segUsable; rw [h1]; simp only [State.seg, h2]
    have hl : ∀ x n, t.inLimit t.cs x n = s.inLimit s.cs x n := fun x n => by unfold State.inLimit; rw [h1, h2]
    have hp : ∀ x, t.peek8 .cs x = s.peek8 .cs x := fun x => by
      simp only [State.peek8, State.readByte, State.linear, State.seg, State.busAddr, h1, h2, h3, h4]
    simp only [State.fetch, ih, hu, hl, hp, h5]

theorem State.fetch_length (s : State) : ∀ k o, (s.fetch k o).length ≤ k := by
  intro k
  induction k with
  | zero => exact fun o => Nat.le_refl _
  | succ k ih =>
    intro o
    unfold State.fetch
    split
    · exact Nat.succ_le_succ (ih _)
    · exact Nat.zero_le _

/-- After an instruction that ended at FFFFH no byte is fetched (20 R114). -/
theorem State.fetch_pastEnd {s : State} (h : s.pastEnd = true) (k o : Nat) : s.fetch k o = [] := by
  cases k <;> simp [State.fetch, h]

/-- An instruction of ten bytes at most, without LOCK, runs as it is. -/
theorem runMain_exec {i : Instr} {t : State} (h1 : t.cur.len ≤ 10) (h2 : t.cur.lock = false) :
    runMain i t = exec i t := by
  simp [runMain, Nat.not_lt.2 h1, h2]

/-- A round of the decoding loop that finds an instruction. -/
theorem runTokens_main {k : Nat} {s : State} {i : Instr} {bs rest : List Byte}
    (hf : s.fetch tokenBytes (s.ip.toNat + s.cur.len) = bs) (hd : decode bs = .ok (i, rest))
    (hp : isPrefix i = false) :
    runTokens (k + 1) s = runMain i (s.consumed (s.cur.len + (bs.length - rest.length))) := by
  rw [runTokens]
  simp only [hf, hd, hp, Bool.false_eq_true, if_false]

/-- A round of the decoding loop that finds a prefix. -/
theorem runTokens_prefix {k : Nat} {s u : State} {i : Instr} {bs rest : List Byte}
    (hf : s.fetch tokenBytes (s.ip.toNat + s.cur.len) = bs) (hd : decode bs = .ok (i, rest)) (hp : isPrefix i = true)
    (hx : exec i (s.consumed (s.cur.len + (bs.length - rest.length))) = .next u) :
    runTokens (k + 1) s = runTokens k u := by
  rw [runTokens]
  simp only [hf, hd, hp, if_true, hx]

/-- A round of the decoding loop that finds no byte of code. -/
theorem runTokens_empty {k : Nat} {s : State} (hf : s.fetch tokenBytes (s.ip.toNat + s.cur.len) = []) :
    runTokens (k + 1) s = .next (s.raise (.gp 0)) := by
  rw [runTokens]
  simp only [hf, decode]

/-- With no operand outstanding, or no request, no word is moved. -/
theorem State.serviceExt_idle {s : State} (h : s.extOp = none ∨ s.env.ext.pereq = 0) : s.serviceExt = s := by
  unfold State.serviceExt
  rcases h with h | h
  · rw [h]
  · cases s.extOp <;> simp [h]

theorem serviceLoop_idle {s : State} (h : s.extOp = none ∨ s.env.ext.pereq = 0) : ∀ k, serviceLoop k s = s := by
  intro k
  induction k with
  | zero => rfl
  | succ k ih => rw [serviceLoop, State.serviceExt_idle h, ih]

theorem State.serviceAll_idle {s : State} (h : s.extOp = none ∨ s.env.ext.pereq = 0) : s.serviceAll = s :=
  serviceLoop_idle h _

/-- A transfer changes memory or the I/O history only. -/
theorem State.extMove_eq (s : State) (o : ExtOperand) :
    ∃ m l, s.extMove o = { s with mem := m, ioLog := l } := by
  unfold State.extMove
  dsimp only
  split
  · rw [State.afterPortWord_eq]; exact ⟨_, _, rfl⟩
  · rw [State.outWord_eq]; exact ⟨_, _, rfl⟩

/-- What serving one outstanding request does: the word is moved and the operand stays, or vector 9 becomes pending,
nothing of the operand or of its requests is left, and the extension waits for data. -/
theorem State.serviceExt_cases {s : State} {o : ExtOperand} (h : s.extOp = some o) (hp : s.env.ext.pereq ≠ 0) :
    (∃ m l, s.serviceExt = { s.setExt { s.env.ext with pereq := s.env.ext.pereq - 1 } with
      mem := m, ioLog := l, extOp := some { o with off := o.off + 2 } }) ∨
    s.serviceExt = { s.setExt { s.env.ext with pereq := 0, held := true } with peOverrun := true, extOp := none } := by
  unfold State.serviceExt
  rw [h]
  simp only [hp, if_false]
  split
  · left
    obtain ⟨m, l, e⟩ := State.extMove_eq (s.setExt { s.env.ext with pereq := s.env.ext.pereq - 1 }) o
    exact ⟨m, l, by rw [e]⟩
  · right; rfl

/-- `t` is `s` with every request served: no register, no flag and no other pin is touched, and either the operand is
still there, or a word overran and vector 9 is pending for an extension that waits for data. -/
def State.Served (s t : State) : Prop :=
  ∃ m l q p h, t = { s.setExt { s.env.ext with pereq := 0, held := h } with
      mem := m, ioLog := l, extOp := q, peOverrun := p } ∧
    (q ≠ none ∧ p = s.peOverrun ∧ h = s.env.ext.held ∨ q = none ∧ p = true ∧ h = true)

theorem serviceLoop_spec : ∀ (k : Nat) (s : State), s.extOp ≠ none → s.env.ext.pereq = k → s.Served (serviceLoop k s)
  | 0, s, h, hk => ⟨s.mem, s.ioLog, s.extOp, s.peOverrun, s.env.ext.held, by
      have e : s.setExt { s.env.ext with pereq := 0 } = s := by rw [← hk]; rfl
      exact e.symm, .inl ⟨h, rfl, rfl⟩⟩
  | k + 1, s, h, hk => by
    obtain ⟨o, ho⟩ := Option.ne_none_iff_exists'.1 h
    rw [serviceLoop]
    rcases State.serviceExt_cases ho (by rw [hk]; exact Nat.succ_ne_zero k) with ⟨m, l, e⟩ | e
    · obtain ⟨m', l', q, p, b, e', c⟩ := serviceLoop_spec k s.serviceExt (by rw [e]; simp) (by rw [e]; simp [hk])
      rw [e']
      rw [e] at c ⊢
      exact ⟨m', l', q, p, b, rfl, c⟩
    · rw [e, serviceLoop_idle (Or.inl rfl)]
      exact ⟨s.mem, s.ioLog, none, true, true, rfl, .inr ⟨rfl, rfl, rfl⟩⟩

theorem State.serviceAll_spec {s : State} (h : s.extOp ≠ none) : s.Served s.serviceAll := serviceLoop_spec _ s h rfl

/-- An ESC that an extension waiting for data does not take leaves the machine at the ESC. -/
theorem escExt_held {s : State} {op : BitVec 6} {e : Ew} (h1 : s.msw.em = false) (h2 : s.msw.ts = false)
    (h3 : s.checkEsc op e = .ok ()) (h4 : s.serviceAll.escHeld op e = true) :
    escExt s op e = .next { s.serviceAll with waiting := .esc } := by
  simp [escExt, h1, h2, h3, h4]

/-- No event is accepted while an ESC waits for the extension. -/
theorem State.atBoundary_esc {s : State} (h : s.waiting = .esc) : s.atBoundary = s.released.serviceAll := by
  simp [State.atBoundary, h]

/-- At a quiet boundary a step is the cycle of one instruction. -/
theorem Quiet.step_eq {s : State} (q : Quiet s) : s.cycle = s.instrCycle := by
  have h1 : s.released = s := by simp [State.released, q.running]
  have h2 : s.serviceAll = s := State.serviceAll_idle q.noTransfer
  have h3 : s.boundary = s := by simp [State.boundary, boundaryLoop, q.running, q.noEvent]
  have h4 : s.atBoundary = s := by simp [State.atBoundary, h1, h2, State.events, q.running, h3]
  simp [State.cycle, q.noReset, h4, q.running]

/-! ### What the boundary keeps -/

theorem State.released_kept (s : State) : Kept s s.released := by
  unfold State.released
  split <;> exact Kept.of_eq rfl rfl rfl rfl

theorem State.extMove_kept (s : State) (o : ExtOperand) : Kept s (s.extMove o) := by
  unfold State.extMove
  dsimp only
  split
  · refine Kept.trans (t := s.afterPortWord 0x00FA) ?_ (State.writeWord_kept ..)
    rw [State.afterPortWord_eq]; exact Kept.of_eq rfl rfl rfl rfl
  · rw [State.outWord_eq]; exact Kept.of_eq rfl rfl rfl rfl

theorem State.setExt_kept (s : State) (x : Ext) : Kept s (s.setExt x) := Kept.of_eq rfl rfl rfl rfl

theorem State.serviceExt_kept (s : State) : Kept s s.serviceExt := by
  unfold State.serviceExt
  split
  · exact Kept.refl s
  · split
    · exact Kept.refl s
    · split
      · exact ((State.setExt_kept ..).trans (State.extMove_kept _ _)).trans (Kept.of_eq rfl rfl rfl rfl)
      · exact Kept.of_eq rfl rfl rfl rfl

theorem serviceLoop_kept : ∀ (k : Nat) (s : State), Kept s (serviceLoop k s)
  | 0, s => Kept.refl s
  | k + 1, s => s.serviceExt_kept.trans (serviceLoop_kept k _)

theorem State.serviceAll_kept (s : State) : Kept s s.serviceAll := serviceLoop_kept _ s

/-- Refusing two bytes: an exception comes first where the checks before the meaning ask for one. -/
theorem refuseMain_refused {r q : Refusal} {s : State} (h : refuseMain r s = .refused q) : q = r := by
  unfold refuseMain at h
  split at h
  · cases h
  · split at h <;> cases h
    rfl

theorem State.boundaryEvent_kept (s : State) : ∀ t, s.boundaryEvent = some t → Kept s t := by
  intro t h
  unfold State.boundaryEvent at h
  split at h
  · cases h
    exact Kept.trans (t := s.takeNmi) (Kept.of_eq rfl rfl rfl rfl) (State.extInt_kept ..)
  · split at h
    · cases h
      exact Kept.trans (t := { s with peOverrun := false }) (Kept.of_eq rfl rfl rfl rfl) (State.extInt_kept ..)
    · split at h
      · split at h
        · cases h
          exact Kept.trans (t := s.ackIntr _ _) (Kept.of_eq rfl rfl rfl rfl) (State.extInt_kept ..)
        · cases h
      · cases h

theorem boundaryLoop_kept (k : Nat) : ∀ s : State, Kept s (boundaryLoop k s) := by
  induction k with
  | zero => exact Kept.refl
  | succ k ih =>
    intro s
    unfold boundaryLoop
    split
    · exact Kept.refl s
    · split
      · rename_i t h
        exact (s.boundaryEvent_kept t h).trans (ih t)
      · exact Kept.refl s

theorem State.nmiInShutdown_kept (s : State) : Kept s s.nmiInShutdown := by
  have h0 : Kept s s.takeNmi := Kept.of_eq rfl rfl rfl rfl
  unfold State.nmiInShutdown
  dsimp only
  split
  · have h := s.takeNmi.deliverProt_kept { vec := 2, kind := .external, retIp := s.takeNmi.ip, err := none }
    split
    · rename_i u e; exact h0.trans (h.1 u e)
    · rename_i x e; exact (h0.trans (h.2 x e)).trans x.st.enterShutdown_kept
  · split
    · exact h0.trans (State.deliverReal_kept ..)
    · exact h0

/-- The events of a boundary. -/
theorem State.events_kept (s : State) : Kept s s.events := by
  unfold State.events
  split
  · split
    · exact s.nmiInShutdown_kept.trans (boundaryLoop_kept _ _)
    · exact Kept.refl s
  · exact boundaryLoop_kept _ _

/-- The boundary before an instruction. -/
theorem State.atBoundary_kept (s : State) : Kept s s.atBoundary := by
  have h := s.released_kept.trans s.released.serviceAll_kept
  unfold State.atBoundary
  split
  · exact h
  · exact h.trans (State.events_kept _)

/-- What follows an instruction. -/
theorem State.afterInstr_kept (s : State) : Kept s s.afterInstr := by
  unfold State.afterInstr
  dsimp only
  split
  · exact Kept.trans (t := { s with cur := Cur.empty }) (Kept.of_eq rfl rfl rfl rfl) (State.extInt_kept ..)
  · exact Kept.of_eq rfl rfl rfl rfl

end Sys2Proof.Machine
end

