-- ==== Sys2Proof/Laws/Encoding.lean ====
section
/-!
SUPPORT. The parsers undo the encoder: ModRM bytes, memory operands, immediates.
-/

namespace Sys2Proof

/-! ### Register codes -/

@[simp] theorem Reg8.ofCode_code (r : Reg8) : Reg8.ofCode r.code = r := by cases r <;> rfl
@[simp] theorem Reg16.ofCode_code (r : Reg16) : Reg16.ofCode r.code = r := by cases r <;> rfl
@[simp] theorem MemBase.ofCode_code (b : MemBase) : MemBase.ofCode b.code = b := by cases b <;> rfl

theorem Rm.map_ofCode8 (e : Eb) : (e.map Reg8.code).map Reg8.ofCode = e := by cases e <;> simp [Rm.map]
theorem Rm.map_ofCode16 (e : Ew) : (e.map Reg16.code).map Reg16.ofCode = e := by cases e <;> simp [Rm.map]

/-! ### The fields of a ModRM byte (30 R265) -/

theorem modRM_md (md : BitVec 2) (rg rm : BitVec 3) : (modRMByte md rg rm).extractLsb' 6 2 = md := by
  revert md rg rm; decide

theorem modRM_rg (md : BitVec 2) (rg rm : BitVec 3) : (modRMByte md rg rm).extractLsb' 3 3 = rg := by
  revert md rg rm; decide

theorem modRM_rm (md : BitVec 2) (rg rm : BitVec 3) : (modRMByte md rg rm).extractLsb' 0 3 = rm := by
  revert md rg rm; decide

/-! ### ModRM operands -/

/-- A parsed memory operand is the encoded one. -/
theorem pModRM_encMem (k : BitVec 3 → Rm (BitVec 3) → Parser) (rg : BitVec 3) {m : MemRef} (h : m.wf = true)
    (rest : List Byte) : pModRM k (encMem rg m ++ rest) = k rg (.mem m) rest := by
  cases m with
  | direct w => simp [encMem, pModRM, modRM_md, modRM_rg, modRM_rm, pMem]
  | idx b d =>
    cases d with
    | none =>
      cases b <;>
        first
        | exact absurd h (by decide)
        | simp [encMem, pModRM, modRM_md, modRM_rg, modRM_rm, pMem, MemBase.code, MemBase.ofCode]
    | d8 x => simp [encMem, pModRM, modRM_md, modRM_rg, modRM_rm, pMem]
    | d16 x => simp [encMem, pModRM, modRM_md, modRM_rg, modRM_rm, pMem]

/-- A parsed `eb` is the encoded one. -/
theorem pModRM_encEb (k : BitVec 3 → Rm (BitVec 3) → Parser) (rg : BitVec 3) {e : Eb} (h : e.wf = true)
    (rest : List Byte) : pModRM k (encEb rg e ++ rest) = k rg (e.map Reg8.code) rest := by
  cases e with
  | reg r => simp [encEb, pModRM, modRM_md, modRM_rg, modRM_rm, Rm.map]
  | mem m => exact pModRM_encMem k rg h rest

/-- A parsed `ew` is the encoded one. -/
theorem pModRM_encEw (k : BitVec 3 → Rm (BitVec 3) → Parser) (rg : BitVec 3) {e : Ew} (h : e.wf = true)
    (rest : List Byte) : pModRM k (encEw rg e ++ rest) = k rg (e.map Reg16.code) rest := by
  cases e with
  | reg r => simp [encEw, pModRM, modRM_md, modRM_rg, modRM_rm, Rm.map]
  | mem m => exact pModRM_encMem k rg h rest

/-! ### The operand shapes -/

theorem pRB_enc (f : Reg8 → Eb → Instr) (r : Reg8) {e : Eb} (h : e.wf = true) (rest : List Byte) :
    pRB f (encEb r.code e ++ rest) = .ok (f r e, rest) := by
  rw [pRB, pModRM_encEb _ _ h]; simp [pNone, Rm.map_ofCode8]

theorem pRW_enc (f : Reg16 → Ew → Instr) (r : Reg16) {e : Ew} (h : e.wf = true) (rest : List Byte) :
    pRW f (encEw r.code e ++ rest) = .ok (f r e, rest) := by
  rw [pRW, pModRM_encEw _ _ h]; simp [pNone, Rm.map_ofCode16]

theorem pRWImm16_enc (f : Reg16 → Ew → Word → Instr) (r : Reg16) {e : Ew} (h : e.wf = true) (w : Word)
    (rest : List Byte) : pRWImm16 f (encEw r.code e ++ (w.lo :: w.hi :: rest)) = .ok (f r e w, rest) := by
  rw [pRWImm16, pModRM_encEw _ _ h]; simp [pImm16, Rm.map_ofCode16]

theorem pRWImm8_enc (f : Reg16 → Ew → Byte → Instr) (r : Reg16) {e : Ew} (h : e.wf = true) (b : Byte)
    (rest : List Byte) : pRWImm8 f (encEw r.code e ++ (b :: rest)) = .ok (f r e b, rest) := by
  rw [pRWImm8, pModRM_encEw _ _ h]; simp [pImm8, Rm.map_ofCode16]

/-- A group opcode with a byte operand: the `reg` field selects the parser of the rest. -/
theorem group_encEb (g : BitVec 3 → Eb → Parser) (n : BitVec 3) {e : Eb} (h : e.wf = true) (rest : List Byte) :
    pModRM (fun n e => g n (e.map Reg8.ofCode)) (encEb n e ++ rest) = g n e rest := by
  rw [pModRM_encEb _ _ h, Rm.map_ofCode8]

/-- A group opcode with a word operand. -/
theorem group_encEw (g : BitVec 3 → Ew → Parser) (n : BitVec 3) {e : Ew} (h : e.wf = true) (rest : List Byte) :
    pModRM (fun n e => g n (e.map Reg16.ofCode)) (encEw n e ++ rest) = g n e rest := by
  rw [pModRM_encEw _ _ h, Rm.map_ofCode16]

theorem pImm16_enc (f : Word → Instr) (w : Word) (rest : List Byte) :
    pImm16 f (w.lo :: w.hi :: rest) = .ok (f w, rest) := by simp [pImm16]

theorem pPtr_enc (f : Word → Word → Instr) (off sel : Word) (rest : List Byte) :
    pPtr f (off.lo :: off.hi :: sel.lo :: sel.hi :: rest) = .ok (f off sel, rest) := by simp [pPtr]

theorem Rm.memWf_wf {ρ : Type} {e : Rm ρ} (h : e.memWf = true) : e.wf = true := by
  cases e with
  | reg r => cases h
  | mem m => exact h

end Sys2Proof
end

