-- ==== Sys2Proof/Laws/PerInstr.lean ====
section
/-!
SUPPORT. The family RoundTrip: decoding the encoding of a well-formed instruction gives the instruction back, whatever
bytes follow it. A repeat prefix alone is followed by nothing here: with a string opcode after it the decoder reads the
prefixed instruction of the table (log 10).
-/

namespace Sys2Proof.Laws.RoundTrip

/-- Decoding undoes encoding. -/
def Statement (i : Instr) : Prop :=
  i.wf = true → ∀ rest : List Byte, (i = .rep ∨ i = .repne → rest = []) → decode (encode i ++ rest) = .ok (i, rest)

/-- The two halves of an ESC opcode. -/
theorem splitHigh (a b : BitVec 3) : (a ++ b).extractLsb' 3 3 = a := by revert a b; decide
theorem splitLow (a b : BitVec 3) : (a ++ b).extractLsb' 0 3 = b := by revert a b; decide
theorem split_join (op : BitVec 6) : op = op.extractLsb' 3 3 ++ op.extractLsb' 0 3 := by revert op; decide

/-- The eight values of the TTT field of an ESC opcode. -/
theorem escHigh (a : BitVec 3) : a = 0 ∨ a = 1 ∨ a = 2 ∨ a = 3 ∨ a = 4 ∨ a = 5 ∨ a = 6 ∨ a = 7 := by
  revert a; decide

/-- The statement for an instruction whose well-formedness `h` gives the equation. -/
theorem of_eq {i : Instr} (h : i.wf = true → ∀ rest, decode (encode i ++ rest) = .ok (i, rest)) : Statement i :=
  fun hw rest _ => h hw rest

theorem addEbRb (e : Eb) (r : Reg8) : Statement (.addEbRb e r) := of_eq fun h rest => by
  have hd : decode (0x00 :: (encEb r.code e ++ rest)) = pRB (fun r e => .addEbRb e r) (encEb r.code e ++ rest) := rfl
  exact hd.trans (pRB_enc _ r h _)

theorem addEwRw (e : Ew) (r : Reg16) : Statement (.addEwRw e r) := of_eq fun h rest => by
  have hd : decode (0x01 :: (encEw r.code e ++ rest)) = pRW (fun r e => .addEwRw e r) (encEw r.code e ++ rest) := rfl
  exact hd.trans (pRW_enc _ r h _)

theorem addRbEb (r : Reg8) (e : Eb) : Statement (.addRbEb r e) := of_eq fun h rest => by
  have hd : decode (0x02 :: (encEb r.code e ++ rest)) = pRB (fun r e => .addRbEb r e) (encEb r.code e ++ rest) := rfl
  exact hd.trans (pRB_enc _ r h _)

theorem addRwEw (r : Reg16) (e : Ew) : Statement (.addRwEw r e) := of_eq fun h rest => by
  have hd : decode (0x03 :: (encEw r.code e ++ rest)) = pRW (fun r e => .addRwEw r e) (encEw r.code e ++ rest) := rfl
  exact hd.trans (pRW_enc _ r h _)

theorem addAlDb (b : Byte) : Statement (.addAlDb b) := of_eq fun _ _ => rfl

theorem addAxDw (w : Word) : Statement (.addAxDw w) := of_eq fun _ _ => pImm16_enc _ _ _

theorem addEbDb (e : Eb) (b : Byte) : Statement (.addEbDb e b) := of_eq fun h rest => by
  have hd : decode (0x80 :: (encEb 0 e ++ (b :: rest))) =
      pModRM (fun n e => group80 n (e.map Reg8.ofCode)) (encEb 0 e ++ (b :: rest)) := rfl
  exact (congrArg decode (congrArg (fun t => 0x80 :: t) (List.append_assoc (encEb 0 e) [b] rest))).trans
    (hd.trans ((group_encEb group80 0 h _).trans rfl))

theorem addEwDw (e : Ew) (w : Word) : Statement (.addEwDw e w) := of_eq fun h rest => by
  have hd : decode (0x81 :: (encEw 0 e ++ (w.lo :: w.hi :: rest))) =
      pModRM (fun n e => group81 n (e.map Reg16.ofCode)) (encEw 0 e ++ (w.lo :: w.hi :: rest)) := rfl
  exact (congrArg decode (congrArg (fun t => 0x81 :: t) (List.append_assoc (encEw 0 e) [w.lo, w.hi] rest))).trans
    (hd.trans ((group_encEw group81 0 h _).trans (pImm16_enc _ _ _)))

theorem addEwDb (e : Ew) (b : Byte) : Statement (.addEwDb e b) := of_eq fun h rest => by
  have hd : decode (0x83 :: (encEw 0 e ++ (b :: rest))) =
      pModRM (fun n e => group83 n (e.map Reg16.ofCode)) (encEw 0 e ++ (b :: rest)) := rfl
  exact (congrArg decode (congrArg (fun t => 0x83 :: t) (List.append_assoc (encEw 0 e) [b] rest))).trans
    (hd.trans ((group_encEw group83 0 h _).trans rfl))

theorem orEbRb (e : Eb) (r : Reg8) : Statement (.orEbRb e r) := of_eq fun h rest => by
  have hd : decode (0x08 :: (encEb r.code e ++ rest)) = pRB (fun r e => .orEbRb e r) (encEb r.code e ++ rest) := rfl
  exact hd.trans (pRB_enc _ r h _)

theorem orEwRw (e : Ew) (r : Reg16) : Statement (.orEwRw e r) := of_eq fun h rest => by
  have hd : decode (0x09 :: (encEw r.code e ++ rest)) = pRW (fun r e => .orEwRw e r) (encEw r.code e ++ rest) := rfl
  exact hd.trans (pRW_enc _ r h _)

theorem orRbEb (r : Reg8) (e : Eb) : Statement (.orRbEb r e) := of_eq fun h rest => by
  have hd : decode (0x0A :: (encEb r.code e ++ rest)) = pRB (fun r e => .orRbEb r e) (encEb r.code e ++ rest) := rfl
  exact hd.trans (pRB_enc _ r h _)

theorem orRwEw (r : Reg16) (e : Ew) : Statement (.orRwEw r e) := of_eq fun h rest => by
  have hd : decode (0x0B :: (encEw r.code e ++ rest)) = pRW (fun r e => .orRwEw r e) (encEw r.code e ++ rest) := rfl
  exact hd.trans (pRW_enc _ r h _)

theorem orAlDb (b : Byte) : Statement (.orAlDb b) := of_eq fun _ _ => rfl

theorem orAxDw (w : Word) : Statement (.orAxDw w) := of_eq fun _ _ => pImm16_enc _ _ _

theorem orEbDb (e : Eb) (b : Byte) : Statement (.orEbDb e b) := of_eq fun h rest => by
  have hd : decode (0x80 :: (encEb 1 e ++ (b :: rest))) =
      pModRM (fun n e => group80 n (e.map Reg8.ofCode)) (encEb 1 e ++ (b :: rest)) := rfl
  exact (congrArg decode (congrArg (fun t => 0x80 :: t) (List.append_assoc (encEb 1 e) [b] rest))).trans
    (hd.trans ((group_encEb group80 1 h _).trans rfl))

theorem orEwDw (e : Ew) (w : Word) : Statement (.orEwDw e w) := of_eq fun h rest => by
  have hd : decode (0x81 :: (encEw 1 e ++ (w.lo :: w.hi :: rest))) =
      pModRM (fun n e => group81 n (e.map Reg16.ofCode)) (encEw 1 e ++ (w.lo :: w.hi :: rest)) := rfl
  exact (congrArg decode (congrArg (fun t => 0x81 :: t) (List.append_assoc (encEw 1 e) [w.lo, w.hi] rest))).trans
    (hd.trans ((group_encEw group81 1 h _).trans (pImm16_enc _ _ _)))

theorem adcEbRb (e : Eb) (r : Reg8) : Statement (.adcEbRb e r) := of_eq fun h rest => by
  have hd : decode (0x10 :: (encEb r.code e ++ rest)) = pRB (fun r e => .adcEbRb e r) (encEb r.code e ++ rest) := rfl
  exact hd.trans (pRB_enc _ r h _)

theorem adcEwRw (e : Ew) (r : Reg16) : Statement (.adcEwRw e r) := of_eq fun h rest => by
  have hd : decode (0x11 :: (encEw r.code e ++ rest)) = pRW (fun r e => .adcEwRw e r) (encEw r.code e ++ rest) := rfl
  exact hd.trans (pRW_enc _ r h _)

theorem adcRbEb (r : Reg8) (e : Eb) : Statement (.adcRbEb r e) := of_eq fun h rest => by
  have hd : decode (0x12 :: (encEb r.code e ++ rest)) = pRB (fun r e => .adcRbEb r e) (encEb r.code e ++ rest) := rfl
  exact hd.trans (pRB_enc _ r h _)

theorem adcRwEw (r : Reg16) (e : Ew) : Statement (.adcRwEw r e) := of_eq fun h rest => by
  have hd : decode (0x13 :: (encEw r.code e ++ rest)) = pRW (fun r e => .adcRwEw r e) (encEw r.code e ++ rest) := rfl
  exact hd.trans (pRW_enc _ r h _)

theorem adcAlDb (b : Byte) : Statement (.adcAlDb b) := of_eq fun _ _ => rfl

theorem adcAxDw (w : Word) : Statement (.adcAxDw w) := of_eq fun _ _ => pImm16_enc _ _ _

theorem adcEbDb (e : Eb) (b : Byte) : Statement (.adcEbDb e b) := of_eq fun h rest => by
  have hd : decode (0x80 :: (encEb 2 e ++ (b :: rest))) =
      pModRM (fun n e => group80 n (e.map Reg8.ofCode)) (encEb 2 e ++ (b :: rest)) := rfl
  exact (congrArg decode (congrArg (fun t => 0x80 :: t) (List.append_assoc (encEb 2 e) [b] rest))).trans
    (hd.trans ((group_encEb group80 2 h _).trans rfl))

theorem adcEwDw (e : Ew) (w : Word) : Statement (.adcEwDw e w) := of_eq fun h rest => by
  have hd : decode (0x81 :: (encEw 2 e ++ (w.lo :: w.hi :: rest))) =
      pModRM (fun n e => group81 n (e.map Reg16.ofCode)) (encEw 2 e ++ (w.lo :: w.hi :: rest)) := rfl
  exact (congrArg decode (congrArg (fun t => 0x81 :: t) (List.append_assoc (encEw 2 e) [w.lo, w.hi] rest))).trans
    (hd.trans ((group_encEw group81 2 h _).trans (pImm16_enc _ _ _)))

theorem adcEwDb (e : Ew) (b : Byte) : Statement (.adcEwDb e b) := of_eq fun h rest => by
  have hd : decode (0x83 :: (encEw 2 e ++ (b :: rest))) =
      pModRM (fun n e => group83 n (e.map Reg16.ofCode)) (encEw 2 e ++ (b :: rest)) := rfl
  exact (congrArg decode (congrArg (fun t => 0x83 :: t) (List.append_assoc (encEw 2 e) [b] rest))).trans
    (hd.trans ((group_encEw group83 2 h _).trans rfl))

theorem sbbEbRb (e : Eb) (r : Reg8) : Statement (.sbbEbRb e r) := of_eq fun h rest => by
  have hd : decode (0x18 :: (encEb r.code e ++ rest)) = pRB (fun r e => .sbbEbRb e r) (encEb r.code e ++ rest) := rfl
  exact hd.trans (pRB_enc _ r h _)

theorem sbbEwRw (e : Ew) (r : Reg16) : Statement (.sbbEwRw e r) := of_eq fun h rest => by
  have hd : decode (0x19 :: (encEw r.code e ++ rest)) = pRW (fun r e => .sbbEwRw e r) (encEw r.code e ++ rest) := rfl
  exact hd.trans (pRW_enc _ r h _)

theorem sbbRbEb (r : Reg8) (e : Eb) : Statement (.sbbRbEb r e) := of_eq fun h rest => by
  have hd : decode (0x1A :: (encEb r.code e ++ rest)) = pRB (fun r e => .sbbRbEb r e) (encEb r.code e ++ rest) := rfl
  exact hd.trans (pRB_enc _ r h _)

theorem sbbRwEw (r : Reg16) (e : Ew) : Statement (.sbbRwEw r e) := of_eq fun h rest => by
  have hd : decode (0x1B :: (encEw r.code e ++ rest)) = pRW (fun r e => .sbbRwEw r e) (encEw r.code e ++ rest) := rfl
  exact hd.trans (pRW_enc _ r h _)

theorem sbbAlDb (b : Byte) : Statement (.sbbAlDb b) := of_eq fun _ _ => rfl

theorem sbbAxDw (w : Word) : Statement (.sbbAxDw w) := of_eq fun _ _ => pImm16_enc _ _ _

theorem sbbEbDb (e : Eb) (b : Byte) : Statement (.sbbEbDb e b) := of_eq fun h rest => by
  have hd : decode (0x80 :: (encEb 3 e ++ (b :: rest))) =
      pModRM (fun n e => group80 n (e.map Reg8.ofCode)) (encEb 3 e ++ (b :: rest)) := rfl
  exact (congrArg decode (congrArg (fun t => 0x80 :: t) (List.append_assoc (encEb 3 e) [b] rest))).trans
    (hd.trans ((group_encEb group80 3 h _).trans rfl))

theorem sbbEwDw (e : Ew) (w : Word) : Statement (.sbbEwDw e w) := of_eq fun h rest => by
  have hd : decode (0x81 :: (encEw 3 e ++ (w.lo :: w.hi :: rest))) =
      pModRM (fun n e => group81 n (e.map Reg16.ofCode)) (encEw 3 e ++ (w.lo :: w.hi :: rest)) := rfl
  exact (congrArg decode (congrArg (fun t => 0x81 :: t) (List.append_assoc (encEw 3 e) [w.lo, w.hi] rest))).trans
    (hd.trans ((group_encEw group81 3 h _).trans (pImm16_enc _ _ _)))

theorem sbbEwDb (e : Ew) (b : Byte) : Statement (.sbbEwDb e b) := of_eq fun h rest => by
  have hd : decode (0x83 :: (encEw 3 e ++ (b :: rest))) =
      pModRM (fun n e => group83 n (e.map Reg16.ofCode)) (encEw 3 e ++ (b :: rest)) := rfl
  exact (congrArg decode (congrArg (fun t => 0x83 :: t) (List.append_assoc (encEw 3 e) [b] rest))).trans
    (hd.trans ((group_encEw group83 3 h _).trans rfl))

theorem andEbRb (e : Eb) (r : Reg8) : Statement (.andEbRb e r) := of_eq fun h rest => by
  have hd : decode (0x20 :: (encEb r.code e ++ rest)) = pRB (fun r e => .andEbRb e r) (encEb r.code e ++ rest) := rfl
  exact hd.trans (pRB_enc _ r h _)

theorem andEwRw (e : Ew) (r : Reg16) : Statement (.andEwRw e r) := of_eq fun h rest => by
  have hd : decode (0x21 :: (encEw r.code e ++ rest)) = pRW (fun r e => .andEwRw e r) (encEw r.code e ++ rest) := rfl
  exact hd.trans (pRW_enc _ r h _)

theorem andRbEb (r : Reg8) (e : Eb) : Statement (.andRbEb r e) := of_eq fun h rest => by
  have hd : decode (0x22 :: (encEb r.code e ++ rest)) = pRB (fun r e => .andRbEb r e) (encEb r.code e ++ rest) := rfl
  exact hd.trans (pRB_enc _ r h _)

theorem andRwEw (r : Reg16) (e : Ew) : Statement (.andRwEw r e) := of_eq fun h rest => by
  have hd : decode (0x23 :: (encEw r.code e ++ rest)) = pRW (fun r e => .andRwEw r e) (encEw r.code e ++ rest) := rfl
  exact hd.trans (pRW_enc _ r h _)

theorem andAlDb (b : Byte) : Statement (.andAlDb b) := of_eq fun _ _ => rfl

theorem andAxDw (w : Word) : Statement (.andAxDw w) := of_eq fun _ _ => pImm16_enc _ _ _

theorem andEbDb (e : Eb) (b : Byte) : Statement (.andEbDb e b) := of_eq fun h rest => by
  have hd : decode (0x80 :: (encEb 4 e ++ (b :: rest))) =
      pModRM (fun n e => group80 n (e.map Reg8.ofCode)) (encEb 4 e ++ (b :: rest)) := rfl
  exact (congrArg decode (congrArg (fun t => 0x80 :: t) (List.append_assoc (encEb 4 e) [b] rest))).trans
    (hd.trans ((group_encEb group80 4 h _).trans rfl))

theorem andEwDw (e : Ew) (w : Word) : Statement (.andEwDw e w) := of_eq fun h rest => by
  have hd : decode (0x81 :: (encEw 4 e ++ (w.lo :: w.hi :: rest))) =
      pModRM (fun n e => group81 n (e.map Reg16.ofCode)) (encEw 4 e ++ (w.lo :: w.hi :: rest)) := rfl
  exact (congrArg decode (congrArg (fun t => 0x81 :: t) (List.append_assoc (encEw 4 e) [w.lo, w.hi] rest))).trans
    (hd.trans ((group_encEw group81 4 h _).trans (pImm16_enc _ _ _)))

theorem subEbRb (e : Eb) (r : Reg8) : Statement (.subEbRb e r) := of_eq fun h rest => by
  have hd : decode (0x28 :: (encEb r.code e ++ rest)) = pRB (fun r e => .subEbRb e r) (encEb r.code e ++ rest) := rfl
  exact hd.trans (pRB_enc _ r h _)

theorem subEwRw (e : Ew) (r : Reg16) : Statement (.subEwRw e r) := of_eq fun h rest => by
  have hd : decode (0x29 :: (encEw r.code e ++ rest)) = pRW (fun r e => .subEwRw e r) (encEw r.code e ++ rest) := rfl
  exact hd.trans (pRW_enc _ r h _)

theorem subRbEb (r : Reg8) (e : Eb) : Statement (.subRbEb r e) := of_eq fun h rest => by
  have hd : decode (0x2A :: (encEb r.code e ++ rest)) = pRB (fun r e => .subRbEb r e) (encEb r.code e ++ rest) := rfl
  exact hd.trans (pRB_enc _ r h _)

theorem subRwEw (r : Reg16) (e : Ew) : Statement (.subRwEw r e) := of_eq fun h rest => by
  have hd : decode (0x2B :: (encEw r.code e ++ rest)) = pRW (fun r e => .subRwEw r e) (encEw r.code e ++ rest) := rfl
  exact hd.trans (pRW_enc _ r h _)

theorem subAlDb (b : Byte) : Statement (.subAlDb b) := of_eq fun _ _ => rfl

theorem subAxDw (w : Word) : Statement (.subAxDw w) := of_eq fun _ _ => pImm16_enc _ _ _

theorem subEbDb (e : Eb) (b : Byte) : Statement (.subEbDb e b) := of_eq fun h rest => by
  have hd : decode (0x80 :: (encEb 5 e ++ (b :: rest))) =
      pModRM (fun n e => group80 n (e.map Reg8.ofCode)) (encEb 5 e ++ (b :: rest)) := rfl
  exact (congrArg decode (congrArg (fun t => 0x80 :: t) (List.append_assoc (encEb 5 e) [b] rest))).trans
    (hd.trans ((group_encEb group80 5 h _).trans rfl))

theorem subEwDw (e : Ew) (w : Word) : Statement (.subEwDw e w) := of_eq fun h rest => by
  have hd : decode (0x81 :: (encEw 5 e ++ (w.lo :: w.hi :: rest))) =
      pModRM (fun n e => group81 n (e.map Reg16.ofCode)) (encEw 5 e ++ (w.lo :: w.hi :: rest)) := rfl
  exact (congrArg decode (congrArg (fun t => 0x81 :: t) (List.append_assoc (encEw 5 e) [w.lo, w.hi] rest))).trans
    (hd.trans ((group_encEw group81 5 h _).trans (pImm16_enc _ _ _)))

theorem subEwDb (e : Ew) (b : Byte) : Statement (.subEwDb e b) := of_eq fun h rest => by
  have hd : decode (0x83 :: (encEw 5 e ++ (b :: rest))) =
      pModRM (fun n e => group83 n (e.map Reg16.ofCode)) (encEw 5 e ++ (b :: rest)) := rfl
  exact (congrArg decode (congrArg (fun t => 0x83 :: t) (List.append_assoc (encEw 5 e) [b] rest))).trans
    (hd.trans ((group_encEw group83 5 h _).trans rfl))

theorem xorEbRb (e : Eb) (r : Reg8) : Statement (.xorEbRb e r) := of_eq fun h rest => by
  have hd : decode (0x30 :: (encEb r.code e ++ rest)) = pRB (fun r e => .xorEbRb e r) (encEb r.code e ++ rest) := rfl
  exact hd.trans (pRB_enc _ r h _)

theorem xorEwRw (e : Ew) (r : Reg16) : Statement (.xorEwRw e r) := of_eq fun h rest => by
  have hd : decode (0x31 :: (encEw r.code e ++ rest)) = pRW (fun r e => .xorEwRw e r) (encEw r.code e ++ rest) := rfl
  exact hd.trans (pRW_enc _ r h _)

theorem xorRbEb (r : Reg8) (e : Eb) : Statement (.xorRbEb r e) := of_eq fun h rest => by
  have hd : decode (0x32 :: (encEb r.code e ++ rest)) = pRB (fun r e => .xorRbEb r e) (encEb r.code e ++ rest) := rfl
  exact hd.trans (pRB_enc _ r h _)

theorem xorRwEw (r : Reg16) (e : Ew) : Statement (.xorRwEw r e) := of_eq fun h rest => by
  have hd : decode (0x33 :: (encEw r.code e ++ rest)) = pRW (fun r e => .xorRwEw r e) (encEw r.code e ++ rest) := rfl
  exact hd.trans (pRW_enc _ r h _)

theorem xorAlDb (b : Byte) : Statement (.xorAlDb b) := of_eq fun _ _ => rfl

theorem xorAxDw (w : Word) : Statement (.xorAxDw w) := of_eq fun _ _ => pImm16_enc _ _ _

theorem xorEbDb (e : Eb) (b : Byte) : Statement (.xorEbDb e b) := of_eq fun h rest => by
  have hd : decode (0x80 :: (encEb 6 e ++ (b :: rest))) =
      pModRM (fun n e => group80 n (e.map Reg8.ofCode)) (encEb 6 e ++ (b :: rest)) := rfl
  exact (congrArg decode (congrArg (fun t => 0x80 :: t) (List.append_assoc (encEb 6 e) [b] rest))).trans
    (hd.trans ((group_encEb group80 6 h _).trans rfl))

theorem xorEwDw (e : Ew) (w : Word) : Statement (.xorEwDw e w) := of_eq fun h rest => by
  have hd : decode (0x81 :: (encEw 6 e ++ (w.lo :: w.hi :: rest))) =
      pModRM (fun n e => group81 n (e.map Reg16.ofCode)) (encEw 6 e ++ (w.lo :: w.hi :: rest)) := rfl
  exact (congrArg decode (congrArg (fun t => 0x81 :: t) (List.append_assoc (encEw 6 e) [w.lo, w.hi] rest))).trans
    (hd.trans ((group_encEw group81 6 h _).trans (pImm16_enc _ _ _)))

theorem cmpEbRb (e : Eb) (r : Reg8) : Statement (.cmpEbRb e r) := of_eq fun h rest => by
  have hd : decode (0x38 :: (encEb r.code e ++ rest)) = pRB (fun r e => .cmpEbRb e r) (encEb r.code e ++ rest) := rfl
  exact hd.trans (pRB_enc _ r h _)

theorem cmpEwRw (e : Ew) (r : Reg16) : Statement (.cmpEwRw e r) := of_eq fun h rest => by
  have hd : decode (0x39 :: (encEw r.code e ++ rest)) = pRW (fun r e => .cmpEwRw e r) (encEw r.code e ++ rest) := rfl
  exact hd.trans (pRW_enc _ r h _)

theorem cmpRbEb (r : Reg8) (e : Eb) : Statement (.cmpRbEb r e) := of_eq fun h rest => by
  have hd : decode (0x3A :: (encEb r.code e ++ rest)) = pRB (fun r e => .cmpRbEb r e) (encEb r.code e ++ rest) := rfl
  exact hd.trans (pRB_enc _ r h _)

theorem cmpRwEw (r : Reg16) (e : Ew) : Statement (.cmpRwEw r e) := of_eq fun h rest => by
  have hd : decode (0x3B :: (encEw r.code e ++ rest)) = pRW (fun r e => .cmpRwEw r e) (encEw r.code e ++ rest) := rfl
  exact hd.trans (pRW_enc _ r h _)

theorem cmpAlDb (b : Byte) : Statement (.cmpAlDb b) := of_eq fun _ _ => rfl

theorem cmpAxDw (w : Word) : Statement (.cmpAxDw w) := of_eq fun _ _ => pImm16_enc _ _ _

theorem cmpEbDb (e : Eb) (b : Byte) : Statement (.cmpEbDb e b) := of_eq fun h rest => by
  have hd : decode (0x80 :: (encEb 7 e ++ (b :: rest))) =
      pModRM (fun n e => group80 n (e.map Reg8.ofCode)) (encEb 7 e ++ (b :: rest)) := rfl
  exact (congrArg decode (congrArg (fun t => 0x80 :: t) (List.append_assoc (encEb 7 e) [b] rest))).trans
    (hd.trans ((group_encEb group80 7 h _).trans rfl))

theorem cmpEwDw (e : Ew) (w : Word) : Statement (.cmpEwDw e w) := of_eq fun h rest => by
  have hd : decode (0x81 :: (encEw 7 e ++ (w.lo :: w.hi :: rest))) =
      pModRM (fun n e => group81 n (e.map Reg16.ofCode)) (encEw 7 e ++ (w.lo :: w.hi :: rest)) := rfl
  exact (congrArg decode (congrArg (fun t => 0x81 :: t) (List.append_assoc (encEw 7 e) [w.lo, w.hi] rest))).trans
    (hd.trans ((group_encEw group81 7 h _).trans (pImm16_enc _ _ _)))

theorem cmpEwDb (e : Ew) (b : Byte) : Statement (.cmpEwDb e b) := of_eq fun h rest => by
  have hd : decode (0x83 :: (encEw 7 e ++ (b :: rest))) =
      pModRM (fun n e => group83 n (e.map Reg16.ofCode)) (encEw 7 e ++ (b :: rest)) := rfl
  exact (congrArg decode (congrArg (fun t => 0x83 :: t) (List.append_assoc (encEw 7 e) [b] rest))).trans
    (hd.trans ((group_encEw group83 7 h _).trans rfl))

theorem ud0F (b : Byte) : Statement (.ud0F b) := of_eq fun h rest => by
  simp only [Instr.wf, definedSecondByte, Bool.not_eq_true', Bool.or_eq_false_iff, beq_eq_false_iff_ne] at h
  obtain ⟨⟨⟨⟨h0, h1⟩, h2⟩, h3⟩, h6⟩ := h
  show pTwoByte (b :: rest) = _
  simp only [pTwoByte]
  rw [if_neg h0, if_neg h1, if_neg h2, if_neg h3, if_neg h6]

theorem incRw (r : Reg16) : Statement (.incRw r) := of_eq fun _ _ => by cases r <;> rfl

theorem decRw (r : Reg16) : Statement (.decRw r) := of_eq fun _ _ => by cases r <;> rfl

theorem pushRw (r : Reg16) : Statement (.pushRw r) := of_eq fun _ _ => by cases r <;> rfl

theorem popRw (r : Reg16) : Statement (.popRw r) := of_eq fun _ _ => by cases r <;> rfl

theorem boundRwMd (r : Reg16) (e : Ew) : Statement (.boundRwMd r e) := of_eq fun h rest => by
  have hd : decode (0x62 :: (encEw r.code e ++ rest)) =
      pRW (fun r e => .boundRwMd r e) (encEw r.code e ++ rest) := rfl
  exact hd.trans (pRW_enc _ r (Rm.memWf_wf h) _)

theorem arplEwRw (e : Ew) (r : Reg16) : Statement (.arplEwRw e r) := of_eq fun h rest => by
  have hd : decode (0x63 :: (encEw r.code e ++ rest)) =
      pRW (fun r e => .arplEwRw e r) (encEw r.code e ++ rest) := rfl
  exact hd.trans (pRW_enc _ r h _)

theorem pushDw (w : Word) : Statement (.pushDw w) := of_eq fun _ _ => pImm16_enc _ _ _

theorem imulRwEwDw (r : Reg16) (e : Ew) (w : Word) : Statement (.imulRwEwDw r e w) := of_eq fun h rest => by
  have hd : decode (0x69 :: (encEw r.code e ++ (w.lo :: w.hi :: rest))) =
      pRWImm16 (fun r e => .imulRwEwDw r e) (encEw r.code e ++ (w.lo :: w.hi :: rest)) := rfl
  exact (congrArg decode (congrArg (fun t => 0x69 :: t) (List.append_assoc (encEw r.code e) [w.lo, w.hi] rest))).trans
    (hd.trans (pRWImm16_enc _ r h w _))

theorem pushDb (b : Byte) : Statement (.pushDb b) := of_eq fun _ _ => rfl

theorem imulRwEwDb (r : Reg16) (e : Ew) (b : Byte) : Statement (.imulRwEwDb r e b) := of_eq fun h rest => by
  have hd : decode (0x6B :: (encEw r.code e ++ (b :: rest))) =
      pRWImm8 (fun r e => .imulRwEwDb r e) (encEw r.code e ++ (b :: rest)) := rfl
  exact (congrArg decode (congrArg (fun t => 0x6B :: t) (List.append_assoc (encEw r.code e) [b] rest))).trans
    (hd.trans (pRWImm8_enc _ r h b _))

theorem joCb (b : Byte) : Statement (.joCb b) := of_eq fun _ _ => rfl

theorem jnoCb (b : Byte) : Statement (.jnoCb b) := of_eq fun _ _ => rfl

theorem jbCb (b : Byte) : Statement (.jbCb b) := of_eq fun _ _ => rfl

theorem jaeCb (b : Byte) : Statement (.jaeCb b) := of_eq fun _ _ => rfl

theorem jeCb (b : Byte) : Statement (.jeCb b) := of_eq fun _ _ => rfl

theorem jneCb (b : Byte) : Statement (.jneCb b) := of_eq fun _ _ => rfl

theorem jbeCb (b : Byte) : Statement (.jbeCb b) := of_eq fun _ _ => rfl

theorem jaCb (b : Byte) : Statement (.jaCb b) := of_eq fun _ _ => rfl

theorem jsCb (b : Byte) : Statement (.jsCb b) := of_eq fun _ _ => rfl

theorem jnsCb (b : Byte) : Statement (.jnsCb b) := of_eq fun _ _ => rfl

theorem jpCb (b : Byte) : Statement (.jpCb b) := of_eq fun _ _ => rfl

theorem jnpCb (b : Byte) : Statement (.jnpCb b) := of_eq fun _ _ => rfl

theorem jlCb (b : Byte) : Statement (.jlCb b) := of_eq fun _ _ => rfl

theorem jgeCb (b : Byte) : Statement (.jgeCb b) := of_eq fun _ _ => rfl

theorem jleCb (b : Byte) : Statement (.jleCb b) := of_eq fun _ _ => rfl

theorem jgCb (b : Byte) : Statement (.jgCb b) := of_eq fun _ _ => rfl

theorem testEbRb (e : Eb) (r : Reg8) : Statement (.testEbRb e r) := of_eq fun h rest => by
  have hd : decode (0x84 :: (encEb r.code e ++ rest)) =
      pRB (fun r e => .testEbRb e r) (encEb r.code e ++ rest) := rfl
  exact hd.trans (pRB_enc _ r h _)

theorem testEwRw (e : Ew) (r : Reg16) : Statement (.testEwRw e r) := of_eq fun h rest => by
  have hd : decode (0x85 :: (encEw r.code e ++ rest)) =
      pRW (fun r e => .testEwRw e r) (encEw r.code e ++ rest) := rfl
  exact hd.trans (pRW_enc _ r h _)

theorem xchgEbRb (e : Eb) (r : Reg8) : Statement (.xchgEbRb e r) := of_eq fun h rest => by
  have hd : decode (0x86 :: (encEb r.code e ++ rest)) =
      pRB (fun r e => .xchgEbRb e r) (encEb r.code e ++ rest) := rfl
  exact hd.trans (pRB_enc _ r h _)

theorem xchgEwRw (e : Ew) (r : Reg16) : Statement (.xchgEwRw e r) := of_eq fun h rest => by
  have hd : decode (0x87 :: (encEw r.code e ++ rest)) =
      pRW (fun r e => .xchgEwRw e r) (encEw r.code e ++ rest) := rfl
  exact hd.trans (pRW_enc _ r h _)

theorem movEbRb (e : Eb) (r : Reg8) : Statement (.movEbRb e r) := of_eq fun h rest => by
  have hd : decode (0x88 :: (encEb r.code e ++ rest)) = pRB (fun r e => .movEbRb e r) (encEb r.code e ++ rest) := rfl
  exact hd.trans (pRB_enc _ r h _)

theorem movEwRw (e : Ew) (r : Reg16) : Statement (.movEwRw e r) := of_eq fun h rest => by
  have hd : decode (0x89 :: (encEw r.code e ++ rest)) = pRW (fun r e => .movEwRw e r) (encEw r.code e ++ rest) := rfl
  exact hd.trans (pRW_enc _ r h _)

theorem movRbEb (r : Reg8) (e : Eb) : Statement (.movRbEb r e) := of_eq fun h rest => by
  have hd : decode (0x8A :: (encEb r.code e ++ rest)) = pRB (fun r e => .movRbEb r e) (encEb r.code e ++ rest) := rfl
  exact hd.trans (pRB_enc _ r h _)

theorem movRwEw (r : Reg16) (e : Ew) : Statement (.movRwEw r e) := of_eq fun h rest => by
  have hd : decode (0x8B :: (encEw r.code e ++ rest)) = pRW (fun r e => .movRwEw r e) (encEw r.code e ++ rest) := rfl
  exact hd.trans (pRW_enc _ r h _)

theorem movEwEs (e : Ew) : Statement (.movEwEs e) := of_eq fun h rest => by
  have hd : decode (0x8C :: (encEw 0 e ++ rest)) =
      pModRM (fun n e => group8C n (e.map Reg16.ofCode)) (encEw 0 e ++ rest) := rfl
  exact hd.trans ((group_encEw group8C 0 h _).trans rfl)

theorem movEwCs (e : Ew) : Statement (.movEwCs e) := of_eq fun h rest => by
  have hd : decode (0x8C :: (encEw 1 e ++ rest)) =
      pModRM (fun n e => group8C n (e.map Reg16.ofCode)) (encEw 1 e ++ rest) := rfl
  exact hd.trans ((group_encEw group8C 1 h _).trans rfl)

theorem movEwSs (e : Ew) : Statement (.movEwSs e) := of_eq fun h rest => by
  have hd : decode (0x8C :: (encEw 2 e ++ rest)) =
      pModRM (fun n e => group8C n (e.map Reg16.ofCode)) (encEw 2 e ++ rest) := rfl
  exact hd.trans ((group_encEw group8C 2 h _).trans rfl)

theorem movEwDs (e : Ew) : Statement (.movEwDs e) := of_eq fun h rest => by
  have hd : decode (0x8C :: (encEw 3 e ++ rest)) =
      pModRM (fun n e => group8C n (e.map Reg16.ofCode)) (encEw 3 e ++ rest) := rfl
  exact hd.trans ((group_encEw group8C 3 h _).trans rfl)

theorem leaRwM (r : Reg16) (e : Ew) : Statement (.leaRwM r e) := of_eq fun h rest => by
  have hd : decode (0x8D :: (encEw r.code e ++ rest)) = pRW (fun r e => .leaRwM r e) (encEw r.code e ++ rest) := rfl
  exact hd.trans (pRW_enc _ r (Rm.memWf_wf h) _)

theorem movEsEw (e : Ew) : Statement (.movEsEw e) := of_eq fun h rest => by
  have hd : decode (0x8E :: (encEw 0 e ++ rest)) =
      pModRM (fun n e => group8E n (e.map Reg16.ofCode)) (encEw 0 e ++ rest) := rfl
  exact hd.trans ((group_encEw group8E 0 h _).trans rfl)

theorem movSsEw (e : Ew) : Statement (.movSsEw e) := of_eq fun h rest => by
  have hd : decode (0x8E :: (encEw 2 e ++ rest)) =
      pModRM (fun n e => group8E n (e.map Reg16.ofCode)) (encEw 2 e ++ rest) := rfl
  exact hd.trans ((group_encEw group8E 2 h _).trans rfl)

theorem movDsEw (e : Ew) : Statement (.movDsEw e) := of_eq fun h rest => by
  have hd : decode (0x8E :: (encEw 3 e ++ rest)) =
      pModRM (fun n e => group8E n (e.map Reg16.ofCode)) (encEw 3 e ++ rest) := rfl
  exact hd.trans ((group_encEw group8E 3 h _).trans rfl)

theorem popMw (e : Ew) : Statement (.popMw e) := of_eq fun h rest => by
  have hd : decode (0x8F :: (encEw 0 e ++ rest)) =
      pModRM (fun n e => group8F n (e.map Reg16.ofCode)) (encEw 0 e ++ rest) := rfl
  exact hd.trans ((group_encEw group8F 0 (Rm.memWf_wf h) _).trans rfl)

theorem xchgAxRw (r : Reg16) : Statement (.xchgAxRw r) := of_eq fun h _ => by
  cases r <;> first | rfl | exact absurd h (by decide)

theorem callCd (off : Word) (sel : Word) : Statement (.callCd off sel) := of_eq fun _ _ => pPtr_enc _ _ _ _

theorem movAlXb (o : Word) : Statement (.movAlXb o) := of_eq fun _ _ => pImm16_enc _ _ _

theorem movAxXw (o : Word) : Statement (.movAxXw o) := of_eq fun _ _ => pImm16_enc _ _ _

theorem movXbAl (o : Word) : Statement (.movXbAl o) := of_eq fun _ _ => pImm16_enc _ _ _

theorem movXwAx (o : Word) : Statement (.movXwAx o) := of_eq fun _ _ => pImm16_enc _ _ _

theorem testAlDb (b : Byte) : Statement (.testAlDb b) := of_eq fun _ _ => rfl

theorem testAxDw (w : Word) : Statement (.testAxDw w) := of_eq fun _ _ => pImm16_enc _ _ _

theorem movRbDb (r : Reg8) (b : Byte) : Statement (.movRbDb r b) := of_eq fun _ _ => by cases r <;> rfl

theorem movRwDw (r : Reg16) (w : Word) : Statement (.movRwDw r w) :=
  of_eq fun _ _ => by cases r <;> exact pImm16_enc _ _ _

theorem rolEbDb (e : Eb) (b : Byte) : Statement (.rolEbDb e b) := of_eq fun h rest => by
  have hd : decode (0xC0 :: (encEb 0 e ++ (b :: rest))) =
      pModRM (fun n e => groupC0 n (e.map Reg8.ofCode)) (encEb 0 e ++ (b :: rest)) := rfl
  exact (congrArg decode (congrArg (fun t => 0xC0 :: t) (List.append_assoc (encEb 0 e) [b] rest))).trans
    (hd.trans ((group_encEb groupC0 0 h _).trans rfl))

theorem rorEbDb (e : Eb) (b : Byte) : Statement (.rorEbDb e b) := of_eq fun h rest => by
  have hd : decode (0xC0 :: (encEb 1 e ++ (b :: rest))) =
      pModRM (fun n e => groupC0 n (e.map Reg8.ofCode)) (encEb 1 e ++ (b :: rest)) := rfl
  exact (congrArg decode (congrArg (fun t => 0xC0 :: t) (List.append_assoc (encEb 1 e) [b] rest))).trans
    (hd.trans ((group_encEb groupC0 1 h _).trans rfl))

theorem rclEbDb (e : Eb) (b : Byte) : Statement (.rclEbDb e b) := of_eq fun h rest => by
  have hd : decode (0xC0 :: (encEb 2 e ++ (b :: rest))) =
      pModRM (fun n e => groupC0 n (e.map Reg8.ofCode)) (encEb 2 e ++ (b :: rest)) := rfl
  exact (congrArg decode (congrArg (fun t => 0xC0 :: t) (List.append_assoc (encEb 2 e) [b] rest))).trans
    (hd.trans ((group_encEb groupC0 2 h _).trans rfl))

theorem rcrEbDb (e : Eb) (b : Byte) : Statement (.rcrEbDb e b) := of_eq fun h rest => by
  have hd : decode (0xC0 :: (encEb 3 e ++ (b :: rest))) =
      pModRM (fun n e => groupC0 n (e.map Reg8.ofCode)) (encEb 3 e ++ (b :: rest)) := rfl
  exact (congrArg decode (congrArg (fun t => 0xC0 :: t) (List.append_assoc (encEb 3 e) [b] rest))).trans
    (hd.trans ((group_encEb groupC0 3 h _).trans rfl))

theorem salEbDb (e : Eb) (b : Byte) : Statement (.salEbDb e b) := of_eq fun h rest => by
  have hd : decode (0xC0 :: (encEb 4 e ++ (b :: rest))) =
      pModRM (fun n e => groupC0 n (e.map Reg8.ofCode)) (encEb 4 e ++ (b :: rest)) := rfl
  exact (congrArg decode (congrArg (fun t => 0xC0 :: t) (List.append_assoc (encEb 4 e) [b] rest))).trans
    (hd.trans ((group_encEb groupC0 4 h _).trans rfl))

theorem shrEbDb (e : Eb) (b : Byte) : Statement (.shrEbDb e b) := of_eq fun h rest => by
  have hd : decode (0xC0 :: (encEb 5 e ++ (b :: rest))) =
      pModRM (fun n e => groupC0 n (e.map Reg8.ofCode)) (encEb 5 e ++ (b :: rest)) := rfl
  exact (congrArg decode (congrArg (fun t => 0xC0 :: t) (List.append_assoc (encEb 5 e) [b] rest))).trans
    (hd.trans ((group_encEb groupC0 5 h _).trans rfl))

theorem sarEbDb (e : Eb) (b : Byte) : Statement (.sarEbDb e b) := of_eq fun h rest => by
  have hd : decode (0xC0 :: (encEb 7 e ++ (b :: rest))) =
      pModRM (fun n e => groupC0 n (e.map Reg8.ofCode)) (encEb 7 e ++ (b :: rest)) := rfl
  exact (congrArg decode (congrArg (fun t => 0xC0 :: t) (List.append_assoc (encEb 7 e) [b] rest))).trans
    (hd.trans ((group_encEb groupC0 7 h _).trans rfl))

theorem rolEwDb (e : Ew) (b : Byte) : Statement (.rolEwDb e b) := of_eq fun h rest => by
  have hd : decode (0xC1 :: (encEw 0 e ++ (b :: rest))) =
      pModRM (fun n e => groupC1 n (e.map Reg16.ofCode)) (encEw 0 e ++ (b :: rest)) := rfl
  exact (congrArg decode (congrArg (fun t => 0xC1 :: t) (List.append_assoc (encEw 0 e) [b] rest))).trans
    (hd.trans ((group_encEw groupC1 0 h _).trans rfl))

theorem rorEwDb (e : Ew) (b : Byte) : Statement (.rorEwDb e b) := of_eq fun h rest => by
  have hd : decode (0xC1 :: (encEw 1 e ++ (b :: rest))) =
      pModRM (fun n e => groupC1 n (e.map Reg16.ofCode)) (encEw 1 e ++ (b :: rest)) := rfl
  exact (congrArg decode (congrArg (fun t => 0xC1 :: t) (List.append_assoc (encEw 1 e) [b] rest))).trans
    (hd.trans ((group_encEw groupC1 1 h _).trans rfl))

theorem rclEwDb (e : Ew) (b : Byte) : Statement (.rclEwDb e b) := of_eq fun h rest => by
  have hd : decode (0xC1 :: (encEw 2 e ++ (b :: rest))) =
      pModRM (fun n e => groupC1 n (e.map Reg16.ofCode)) (encEw 2 e ++ (b :: rest)) := rfl
  exact (congrArg decode (congrArg (fun t => 0xC1 :: t) (List.append_assoc (encEw 2 e) [b] rest))).trans
    (hd.trans ((group_encEw groupC1 2 h _).trans rfl))

theorem rcrEwDb (e : Ew) (b : Byte) : Statement (.rcrEwDb e b) := of_eq fun h rest => by
  have hd : decode (0xC1 :: (encEw 3 e ++ (b :: rest))) =
      pModRM (fun n e => groupC1 n (e.map Reg16.ofCode)) (encEw 3 e ++ (b :: rest)) := rfl
  exact (congrArg decode (congrArg (fun t => 0xC1 :: t) (List.append_assoc (encEw 3 e) [b] rest))).trans
    (hd.trans ((group_encEw groupC1 3 h _).trans rfl))

theorem salEwDb (e : Ew) (b : Byte) : Statement (.salEwDb e b) := of_eq fun h rest => by
  have hd : decode (0xC1 :: (encEw 4 e ++ (b :: rest))) =
      pModRM (fun n e => groupC1 n (e.map Reg16.ofCode)) (encEw 4 e ++ (b :: rest)) := rfl
  exact (congrArg decode (congrArg (fun t => 0xC1 :: t) (List.append_assoc (encEw 4 e) [b] rest))).trans
    (hd.trans ((group_encEw groupC1 4 h _).trans rfl))

theorem shrEwDb (e : Ew) (b : Byte) : Statement (.shrEwDb e b) := of_eq fun h rest => by
  have hd : decode (0xC1 :: (encEw 5 e ++ (b :: rest))) =
      pModRM (fun n e => groupC1 n (e.map Reg16.ofCode)) (encEw 5 e ++ (b :: rest)) := rfl
  exact (congrArg decode (congrArg (fun t => 0xC1 :: t) (List.append_assoc (encEw 5 e) [b] rest))).trans
    (hd.trans ((group_encEw groupC1 5 h _).trans rfl))

theorem sarEwDb (e : Ew) (b : Byte) : Statement (.sarEwDb e b) := of_eq fun h rest => by
  have hd : decode (0xC1 :: (encEw 7 e ++ (b :: rest))) =
      pModRM (fun n e => groupC1 n (e.map Reg16.ofCode)) (encEw 7 e ++ (b :: rest)) := rfl
  exact (congrArg decode (congrArg (fun t => 0xC1 :: t) (List.append_assoc (encEw 7 e) [b] rest))).trans
    (hd.trans ((group_encEw groupC1 7 h _).trans rfl))

theorem rolEb1 (e : Eb) : Statement (.rolEb1 e) := of_eq fun h rest => by
  have hd : decode (0xD0 :: (encEb 0 e ++ rest)) =
      pModRM (fun n e => groupD0 n (e.map Reg8.ofCode)) (encEb 0 e ++ rest) := rfl
  exact hd.trans ((group_encEb groupD0 0 h _).trans rfl)

theorem rorEb1 (e : Eb) : Statement (.rorEb1 e) := of_eq fun h rest => by
  have hd : decode (0xD0 :: (encEb 1 e ++ rest)) =
      pModRM (fun n e => groupD0 n (e.map Reg8.ofCode)) (encEb 1 e ++ rest) := rfl
  exact hd.trans ((group_encEb groupD0 1 h _).trans rfl)

theorem rclEb1 (e : Eb) : Statement (.rclEb1 e) := of_eq fun h rest => by
  have hd : decode (0xD0 :: (encEb 2 e ++ rest)) =
      pModRM (fun n e => groupD0 n (e.map Reg8.ofCode)) (encEb 2 e ++ rest) := rfl
  exact hd.trans ((group_encEb groupD0 2 h _).trans rfl)

theorem rcrEb1 (e : Eb) : Statement (.rcrEb1 e) := of_eq fun h rest => by
  have hd : decode (0xD0 :: (encEb 3 e ++ rest)) =
      pModRM (fun n e => groupD0 n (e.map Reg8.ofCode)) (encEb 3 e ++ rest) := rfl
  exact hd.trans ((group_encEb groupD0 3 h _).trans rfl)

theorem salEb1 (e : Eb) : Statement (.salEb1 e) := of_eq fun h rest => by
  have hd : decode (0xD0 :: (encEb 4 e ++ rest)) =
      pModRM (fun n e => groupD0 n (e.map Reg8.ofCode)) (encEb 4 e ++ rest) := rfl
  exact hd.trans ((group_encEb groupD0 4 h _).trans rfl)

theorem shrEb1 (e : Eb) : Statement (.shrEb1 e) := of_eq fun h rest => by
  have hd : decode (0xD0 :: (encEb 5 e ++ rest)) =
      pModRM (fun n e => groupD0 n (e.map Reg8.ofCode)) (encEb 5 e ++ rest) := rfl
  exact hd.trans ((group_encEb groupD0 5 h _).trans rfl)

theorem sarEb1 (e : Eb) : Statement (.sarEb1 e) := of_eq fun h rest => by
  have hd : decode (0xD0 :: (encEb 7 e ++ rest)) =
      pModRM (fun n e => groupD0 n (e.map Reg8.ofCode)) (encEb 7 e ++ rest) := rfl
  exact hd.trans ((group_encEb groupD0 7 h _).trans rfl)

theorem rolEw1 (e : Ew) : Statement (.rolEw1 e) := of_eq fun h rest => by
  have hd : decode (0xD1 :: (encEw 0 e ++ rest)) =
      pModRM (fun n e => groupD1 n (e.map Reg16.ofCode)) (encEw 0 e ++ rest) := rfl
  exact hd.trans ((group_encEw groupD1 0 h _).trans rfl)

theorem rorEw1 (e : Ew) : Statement (.rorEw1 e) := of_eq fun h rest => by
  have hd : decode (0xD1 :: (encEw 1 e ++ rest)) =
      pModRM (fun n e => groupD1 n (e.map Reg16.ofCode)) (encEw 1 e ++ rest) := rfl
  exact hd.trans ((group_encEw groupD1 1 h _).trans rfl)

theorem rclEw1 (e : Ew) : Statement (.rclEw1 e) := of_eq fun h rest => by
  have hd : decode (0xD1 :: (encEw 2 e ++ rest)) =
      pModRM (fun n e => groupD1 n (e.map Reg16.ofCode)) (encEw 2 e ++ rest) := rfl
  exact hd.trans ((group_encEw groupD1 2 h _).trans rfl)

theorem rcrEw1 (e : Ew) : Statement (.rcrEw1 e) := of_eq fun h rest => by
  have hd : decode (0xD1 :: (encEw 3 e ++ rest)) =
      pModRM (fun n e => groupD1 n (e.map Reg16.ofCode)) (encEw 3 e ++ rest) := rfl
  exact hd.trans ((group_encEw groupD1 3 h _).trans rfl)

theorem salEw1 (e : Ew) : Statement (.salEw1 e) := of_eq fun h rest => by
  have hd : decode (0xD1 :: (encEw 4 e ++ rest)) =
      pModRM (fun n e => groupD1 n (e.map Reg16.ofCode)) (encEw 4 e ++ rest) := rfl
  exact hd.trans ((group_encEw groupD1 4 h _).trans rfl)

theorem shrEw1 (e : Ew) : Statement (.shrEw1 e) := of_eq fun h rest => by
  have hd : decode (0xD1 :: (encEw 5 e ++ rest)) =
      pModRM (fun n e => groupD1 n (e.map Reg16.ofCode)) (encEw 5 e ++ rest) := rfl
  exact hd.trans ((group_encEw groupD1 5 h _).trans rfl)

theorem sarEw1 (e : Ew) : Statement (.sarEw1 e) := of_eq fun h rest => by
  have hd : decode (0xD1 :: (encEw 7 e ++ rest)) =
      pModRM (fun n e => groupD1 n (e.map Reg16.ofCode)) (encEw 7 e ++ rest) := rfl
  exact hd.trans ((group_encEw groupD1 7 h _).trans rfl)

theorem rolEbCl (e : Eb) : Statement (.rolEbCl e) := of_eq fun h rest => by
  have hd : decode (0xD2 :: (encEb 0 e ++ rest)) =
      pModRM (fun n e => groupD2 n (e.map Reg8.ofCode)) (encEb 0 e ++ rest) := rfl
  exact hd.trans ((group_encEb groupD2 0 h _).trans rfl)

theorem rorEbCl (e : Eb) : Statement (.rorEbCl e) := of_eq fun h rest => by
  have hd : decode (0xD2 :: (encEb 1 e ++ rest)) =
      pModRM (fun n e => groupD2 n (e.map Reg8.ofCode)) (encEb 1 e ++ rest) := rfl
  exact hd.trans ((group_encEb groupD2 1 h _).trans rfl)

theorem rclEbCl (e : Eb) : Statement (.rclEbCl e) := of_eq fun h rest => by
  have hd : decode (0xD2 :: (encEb 2 e ++ rest)) =
      pModRM (fun n e => groupD2 n (e.map Reg8.ofCode)) (encEb 2 e ++ rest) := rfl
  exact hd.trans ((group_encEb groupD2 2 h _).trans rfl)

theorem rcrEbCl (e : Eb) : Statement (.rcrEbCl e) := of_eq fun h rest => by
  have hd : decode (0xD2 :: (encEb 3 e ++ rest)) =
      pModRM (fun n e => groupD2 n (e.map Reg8.ofCode)) (encEb 3 e ++ rest) := rfl
  exact hd.trans ((group_encEb groupD2 3 h _).trans rfl)

theorem salEbCl (e : Eb) : Statement (.salEbCl e) := of_eq fun h rest => by
  have hd : decode (0xD2 :: (encEb 4 e ++ rest)) =
      pModRM (fun n e => groupD2 n (e.map Reg8.ofCode)) (encEb 4 e ++ rest) := rfl
  exact hd.trans ((group_encEb groupD2 4 h _).trans rfl)

theorem shrEbCl (e : Eb) : Statement (.shrEbCl e) := of_eq fun h rest => by
  have hd : decode (0xD2 :: (encEb 5 e ++ rest)) =
      pModRM (fun n e => groupD2 n (e.map Reg8.ofCode)) (encEb 5 e ++ rest) := rfl
  exact hd.trans ((group_encEb groupD2 5 h _).trans rfl)

theorem sarEbCl (e : Eb) : Statement (.sarEbCl e) := of_eq fun h rest => by
  have hd : decode (0xD2 :: (encEb 7 e ++ rest)) =
      pModRM (fun n e => groupD2 n (e.map Reg8.ofCode)) (encEb 7 e ++ rest) := rfl
  exact hd.trans ((group_encEb groupD2 7 h _).trans rfl)

theorem rolEwCl (e : Ew) : Statement (.rolEwCl e) := of_eq fun h rest => by
  have hd : decode (0xD3 :: (encEw 0 e ++ rest)) =
      pModRM (fun n e => groupD3 n (e.map Reg16.ofCode)) (encEw 0 e ++ rest) := rfl
  exact hd.trans ((group_encEw groupD3 0 h _).trans rfl)

theorem rorEwCl (e : Ew) : Statement (.rorEwCl e) := of_eq fun h rest => by
  have hd : decode (0xD3 :: (encEw 1 e ++ rest)) =
      pModRM (fun n e => groupD3 n (e.map Reg16.ofCode)) (encEw 1 e ++ rest) := rfl
  exact hd.trans ((group_encEw groupD3 1 h _).trans rfl)

theorem rclEwCl (e : Ew) : Statement (.rclEwCl e) := of_eq fun h rest => by
  have hd : decode (0xD3 :: (encEw 2 e ++ rest)) =
      pModRM (fun n e => groupD3 n (e.map Reg16.ofCode)) (encEw 2 e ++ rest) := rfl
  exact hd.trans ((group_encEw groupD3 2 h _).trans rfl)

theorem rcrEwCl (e : Ew) : Statement (.rcrEwCl e) := of_eq fun h rest => by
  have hd : decode (0xD3 :: (encEw 3 e ++ rest)) =
      pModRM (fun n e => groupD3 n (e.map Reg16.ofCode)) (encEw 3 e ++ rest) := rfl
  exact hd.trans ((group_encEw groupD3 3 h _).trans rfl)

theorem salEwCl (e : Ew) : Statement (.salEwCl e) := of_eq fun h rest => by
  have hd : decode (0xD3 :: (encEw 4 e ++ rest)) =
      pModRM (fun n e => groupD3 n (e.map Reg16.ofCode)) (encEw 4 e ++ rest) := rfl
  exact hd.trans ((group_encEw groupD3 4 h _).trans rfl)

theorem shrEwCl (e : Ew) : Statement (.shrEwCl e) := of_eq fun h rest => by
  have hd : decode (0xD3 :: (encEw 5 e ++ rest)) =
      pModRM (fun n e => groupD3 n (e.map Reg16.ofCode)) (encEw 5 e ++ rest) := rfl
  exact hd.trans ((group_encEw groupD3 5 h _).trans rfl)

theorem sarEwCl (e : Ew) : Statement (.sarEwCl e) := of_eq fun h rest => by
  have hd : decode (0xD3 :: (encEw 7 e ++ rest)) =
      pModRM (fun n e => groupD3 n (e.map Reg16.ofCode)) (encEw 7 e ++ rest) := rfl
  exact hd.trans ((group_encEw groupD3 7 h _).trans rfl)

theorem retNearDw (w : Word) : Statement (.retNearDw w) := of_eq fun _ _ => pImm16_enc _ _ _

theorem lesRwEd (r : Reg16) (e : Ew) : Statement (.lesRwEd r e) := of_eq fun h rest => by
  have hd : decode (0xC4 :: (encEw r.code e ++ rest)) = pRW (fun r e => .lesRwEd r e) (encEw r.code e ++ rest) := rfl
  exact hd.trans (pRW_enc _ r (Rm.memWf_wf h) _)

theorem ldsRwEd (r : Reg16) (e : Ew) : Statement (.ldsRwEd r e) := of_eq fun h rest => by
  have hd : decode (0xC5 :: (encEw r.code e ++ rest)) = pRW (fun r e => .ldsRwEd r e) (encEw r.code e ++ rest) := rfl
  exact hd.trans (pRW_enc _ r (Rm.memWf_wf h) _)

theorem movEbDb (e : Eb) (b : Byte) : Statement (.movEbDb e b) := of_eq fun h rest => by
  have hd : decode (0xC6 :: (encEb 0 e ++ (b :: rest))) =
      pModRM (fun n e => groupC6 n (e.map Reg8.ofCode)) (encEb 0 e ++ (b :: rest)) := rfl
  exact (congrArg decode (congrArg (fun t => 0xC6 :: t) (List.append_assoc (encEb 0 e) [b] rest))).trans
    (hd.trans ((group_encEb groupC6 0 h _).trans rfl))

theorem movEwDw (e : Ew) (w : Word) : Statement (.movEwDw e w) := of_eq fun h rest => by
  have hd : decode (0xC7 :: (encEw 0 e ++ (w.lo :: w.hi :: rest))) =
      pModRM (fun n e => groupC7 n (e.map Reg16.ofCode)) (encEw 0 e ++ (w.lo :: w.hi :: rest)) := rfl
  exact (congrArg decode (congrArg (fun t => 0xC7 :: t) (List.append_assoc (encEw 0 e) [w.lo, w.hi] rest))).trans
    (hd.trans ((group_encEw groupC7 0 h _).trans (pImm16_enc _ _ _)))

theorem enterDwDb (w : Word) (b : Byte) : Statement (.enterDwDb w b) := of_eq fun _ rest => by
  show pImm16Imm8 _ (w.lo :: w.hi :: b :: rest) = _
  simp [pImm16Imm8]

theorem retFarDw (w : Word) : Statement (.retFarDw w) := of_eq fun _ _ => pImm16_enc _ _ _

theorem intDb (b : Byte) : Statement (.intDb b) := of_eq fun _ _ => rfl

theorem esc (op : BitVec 6) (e : Ew) : Statement (.esc op e) := of_eq fun h rest => by
  have key : ∀ a b : BitVec 3, decode (encode (.esc (a ++ b) e) ++ rest) = .ok (.esc (a ++ b) e, rest) := by
    intro a b
    have ha : (a ++ b).extractLsb' 3 3 = a := splitHigh a b
    have hb : (a ++ b).extractLsb' 0 3 = b := splitLow a b
    have he : encode (.esc (a ++ b) e) ++ rest = (0xD8 + a.setWidth 8) :: (encEw b e ++ rest) := by
      simp [encode, ha, hb]
    rw [he]
    have hc : decode ((0xD8 + a.setWidth 8) :: (encEw b e ++ rest)) =
        pModRM (fun n e => pNone (.esc (a ++ n) (e.map Reg16.ofCode))) (encEw b e ++ rest) := by
      rcases escHigh a with h | h | h | h | h | h | h | h <;> subst h <;> rfl
    rw [hc, pModRM_encEw _ _ h, Rm.map_ofCode16]
    rfl
  rw [split_join op]
  exact key _ _

theorem loopneCb (b : Byte) : Statement (.loopneCb b) := of_eq fun _ _ => rfl

theorem loopeCb (b : Byte) : Statement (.loopeCb b) := of_eq fun _ _ => rfl

theorem loopCb (b : Byte) : Statement (.loopCb b) := of_eq fun _ _ => rfl

theorem jcxzCb (b : Byte) : Statement (.jcxzCb b) := of_eq fun _ _ => rfl

theorem inAlDb (b : Byte) : Statement (.inAlDb b) := of_eq fun _ _ => rfl

theorem inAxDb (b : Byte) : Statement (.inAxDb b) := of_eq fun _ _ => rfl

theorem outDbAl (b : Byte) : Statement (.outDbAl b) := of_eq fun _ _ => rfl

theorem outDbAx (b : Byte) : Statement (.outDbAx b) := of_eq fun _ _ => rfl

theorem callCw (w : Word) : Statement (.callCw w) := of_eq fun _ _ => pImm16_enc _ _ _

theorem jmpCw (w : Word) : Statement (.jmpCw w) := of_eq fun _ _ => pImm16_enc _ _ _

theorem jmpCd (off : Word) (sel : Word) : Statement (.jmpCd off sel) := of_eq fun _ _ => pPtr_enc _ _ _ _

theorem jmpCb (b : Byte) : Statement (.jmpCb b) := of_eq fun _ _ => rfl

theorem testEbDb (e : Eb) (b : Byte) : Statement (.testEbDb e b) := of_eq fun h rest => by
  have hd : decode (0xF6 :: (encEb 0 e ++ (b :: rest))) =
      pModRM (fun n e => groupF6 n (e.map Reg8.ofCode)) (encEb 0 e ++ (b :: rest)) := rfl
  exact (congrArg decode (congrArg (fun t => 0xF6 :: t) (List.append_assoc (encEb 0 e) [b] rest))).trans
    (hd.trans ((group_encEb groupF6 0 h _).trans rfl))

theorem notEb (e : Eb) : Statement (.notEb e) := of_eq fun h rest => by
  have hd : decode (0xF6 :: (encEb 2 e ++ rest)) =
      pModRM (fun n e => groupF6 n (e.map Reg8.ofCode)) (encEb 2 e ++ rest) := rfl
  exact hd.trans ((group_encEb groupF6 2 h _).trans rfl)

theorem negEb (e : Eb) : Statement (.negEb e) := of_eq fun h rest => by
  have hd : decode (0xF6 :: (encEb 3 e ++ rest)) =
      pModRM (fun n e => groupF6 n (e.map Reg8.ofCode)) (encEb 3 e ++ rest) := rfl
  exact hd.trans ((group_encEb groupF6 3 h _).trans rfl)

theorem mulEb (e : Eb) : Statement (.mulEb e) := of_eq fun h rest => by
  have hd : decode (0xF6 :: (encEb 4 e ++ rest)) =
      pModRM (fun n e => groupF6 n (e.map Reg8.ofCode)) (encEb 4 e ++ rest) := rfl
  exact hd.trans ((group_encEb groupF6 4 h _).trans rfl)

theorem imulEb (e : Eb) : Statement (.imulEb e) := of_eq fun h rest => by
  have hd : decode (0xF6 :: (encEb 5 e ++ rest)) =
      pModRM (fun n e => groupF6 n (e.map Reg8.ofCode)) (encEb 5 e ++ rest) := rfl
  exact hd.trans ((group_encEb groupF6 5 h _).trans rfl)

theorem divEb (e : Eb) : Statement (.divEb e) := of_eq fun h rest => by
  have hd : decode (0xF6 :: (encEb 6 e ++ rest)) =
      pModRM (fun n e => groupF6 n (e.map Reg8.ofCode)) (encEb 6 e ++ rest) := rfl
  exact hd.trans ((group_encEb groupF6 6 h _).trans rfl)

theorem idivEb (e : Eb) : Statement (.idivEb e) := of_eq fun h rest => by
  have hd : decode (0xF6 :: (encEb 7 e ++ rest)) =
      pModRM (fun n e => groupF6 n (e.map Reg8.ofCode)) (encEb 7 e ++ rest) := rfl
  exact hd.trans ((group_encEb groupF6 7 h _).trans rfl)

theorem testEwDw (e : Ew) (w : Word) : Statement (.testEwDw e w) := of_eq fun h rest => by
  have hd : decode (0xF7 :: (encEw 0 e ++ (w.lo :: w.hi :: rest))) =
      pModRM (fun n e => groupF7 n (e.map Reg16.ofCode)) (encEw 0 e ++ (w.lo :: w.hi :: rest)) := rfl
  exact (congrArg decode (congrArg (fun t => 0xF7 :: t) (List.append_assoc (encEw 0 e) [w.lo, w.hi] rest))).trans
    (hd.trans ((group_encEw groupF7 0 h _).trans (pImm16_enc _ _ _)))

theorem notEw (e : Ew) : Statement (.notEw e) := of_eq fun h rest => by
  have hd : decode (0xF7 :: (encEw 2 e ++ rest)) =
      pModRM (fun n e => groupF7 n (e.map Reg16.ofCode)) (encEw 2 e ++ rest) := rfl
  exact hd.trans ((group_encEw groupF7 2 h _).trans rfl)

theorem negEw (e : Ew) : Statement (.negEw e) := of_eq fun h rest => by
  have hd : decode (0xF7 :: (encEw 3 e ++ rest)) =
      pModRM (fun n e => groupF7 n (e.map Reg16.ofCode)) (encEw 3 e ++ rest) := rfl
  exact hd.trans ((group_encEw groupF7 3 h _).trans rfl)

theorem mulEw (e : Ew) : Statement (.mulEw e) := of_eq fun h rest => by
  have hd : decode (0xF7 :: (encEw 4 e ++ rest)) =
      pModRM (fun n e => groupF7 n (e.map Reg16.ofCode)) (encEw 4 e ++ rest) := rfl
  exact hd.trans ((group_encEw groupF7 4 h _).trans rfl)

theorem imulEw (e : Ew) : Statement (.imulEw e) := of_eq fun h rest => by
  have hd : decode (0xF7 :: (encEw 5 e ++ rest)) =
      pModRM (fun n e => groupF7 n (e.map Reg16.ofCode)) (encEw 5 e ++ rest) := rfl
  exact hd.trans ((group_encEw groupF7 5 h _).trans rfl)

theorem divEw (e : Ew) : Statement (.divEw e) := of_eq fun h rest => by
  have hd : decode (0xF7 :: (encEw 6 e ++ rest)) =
      pModRM (fun n e => groupF7 n (e.map Reg16.ofCode)) (encEw 6 e ++ rest) := rfl
  exact hd.trans ((group_encEw groupF7 6 h _).trans rfl)

theorem idivEw (e : Ew) : Statement (.idivEw e) := of_eq fun h rest => by
  have hd : decode (0xF7 :: (encEw 7 e ++ rest)) =
      pModRM (fun n e => groupF7 n (e.map Reg16.ofCode)) (encEw 7 e ++ rest) := rfl
  exact hd.trans ((group_encEw groupF7 7 h _).trans rfl)

theorem incEb (e : Eb) : Statement (.incEb e) := of_eq fun h rest => by
  have hd : decode (0xFE :: (encEb 0 e ++ rest)) =
      pModRM (fun n e => groupFE n (e.map Reg8.ofCode)) (encEb 0 e ++ rest) := rfl
  exact hd.trans ((group_encEb groupFE 0 h _).trans rfl)

theorem decEb (e : Eb) : Statement (.decEb e) := of_eq fun h rest => by
  have hd : decode (0xFE :: (encEb 1 e ++ rest)) =
      pModRM (fun n e => groupFE n (e.map Reg8.ofCode)) (encEb 1 e ++ rest) := rfl
  exact hd.trans ((group_encEb groupFE 1 h _).trans rfl)

theorem incEw (e : Ew) : Statement (.incEw e) := of_eq fun h rest => by
  have hd : decode (0xFF :: (encEw 0 e ++ rest)) =
      pModRM (fun n e => groupFF n (e.map Reg16.ofCode)) (encEw 0 e ++ rest) := rfl
  exact hd.trans ((group_encEw groupFF 0 h _).trans rfl)

theorem decEw (e : Ew) : Statement (.decEw e) := of_eq fun h rest => by
  have hd : decode (0xFF :: (encEw 1 e ++ rest)) =
      pModRM (fun n e => groupFF n (e.map Reg16.ofCode)) (encEw 1 e ++ rest) := rfl
  exact hd.trans ((group_encEw groupFF 1 h _).trans rfl)

theorem callEw (e : Ew) : Statement (.callEw e) := of_eq fun h rest => by
  have hd : decode (0xFF :: (encEw 2 e ++ rest)) =
      pModRM (fun n e => groupFF n (e.map Reg16.ofCode)) (encEw 2 e ++ rest) := rfl
  exact hd.trans ((group_encEw groupFF 2 h _).trans rfl)

theorem callEd (e : Ew) : Statement (.callEd e) := of_eq fun h rest => by
  have hd : decode (0xFF :: (encEw 3 e ++ rest)) =
      pModRM (fun n e => groupFF n (e.map Reg16.ofCode)) (encEw 3 e ++ rest) := rfl
  exact hd.trans ((group_encEw groupFF 3 (Rm.memWf_wf h) _).trans rfl)

theorem jmpEw (e : Ew) : Statement (.jmpEw e) := of_eq fun h rest => by
  have hd : decode (0xFF :: (encEw 4 e ++ rest)) =
      pModRM (fun n e => groupFF n (e.map Reg16.ofCode)) (encEw 4 e ++ rest) := rfl
  exact hd.trans ((group_encEw groupFF 4 h _).trans rfl)

theorem jmpMd (e : Ew) : Statement (.jmpMd e) := of_eq fun h rest => by
  have hd : decode (0xFF :: (encEw 5 e ++ rest)) =
      pModRM (fun n e => groupFF n (e.map Reg16.ofCode)) (encEw 5 e ++ rest) := rfl
  exact hd.trans ((group_encEw groupFF 5 (Rm.memWf_wf h) _).trans rfl)

theorem pushMw (e : Ew) : Statement (.pushMw e) := of_eq fun h rest => by
  have hd : decode (0xFF :: (encEw 6 e ++ rest)) =
      pModRM (fun n e => groupFF n (e.map Reg16.ofCode)) (encEw 6 e ++ rest) := rfl
  exact hd.trans ((group_encEw groupFF 6 (Rm.memWf_wf h) _).trans rfl)

theorem sldtEw (e : Ew) : Statement (.sldtEw e) := of_eq fun h rest => by
  have hd : decode (0x0F :: 0x00 :: (encEw 0 e ++ rest)) =
      pModRM (fun n e => group0F00 n (e.map Reg16.ofCode)) (encEw 0 e ++ rest) := rfl
  exact hd.trans ((group_encEw group0F00 0 h _).trans rfl)

theorem strEw (e : Ew) : Statement (.strEw e) := of_eq fun h rest => by
  have hd : decode (0x0F :: 0x00 :: (encEw 1 e ++ rest)) =
      pModRM (fun n e => group0F00 n (e.map Reg16.ofCode)) (encEw 1 e ++ rest) := rfl
  exact hd.trans ((group_encEw group0F00 1 h _).trans rfl)

theorem lldtEw (e : Ew) : Statement (.lldtEw e) := of_eq fun h rest => by
  have hd : decode (0x0F :: 0x00 :: (encEw 2 e ++ rest)) =
      pModRM (fun n e => group0F00 n (e.map Reg16.ofCode)) (encEw 2 e ++ rest) := rfl
  exact hd.trans ((group_encEw group0F00 2 h _).trans rfl)

theorem ltrEw (e : Ew) : Statement (.ltrEw e) := of_eq fun h rest => by
  have hd : decode (0x0F :: 0x00 :: (encEw 3 e ++ rest)) =
      pModRM (fun n e => group0F00 n (e.map Reg16.ofCode)) (encEw 3 e ++ rest) := rfl
  exact hd.trans ((group_encEw group0F00 3 h _).trans rfl)

theorem verrEw (e : Ew) : Statement (.verrEw e) := of_eq fun h rest => by
  have hd : decode (0x0F :: 0x00 :: (encEw 4 e ++ rest)) =
      pModRM (fun n e => group0F00 n (e.map Reg16.ofCode)) (encEw 4 e ++ rest) := rfl
  exact hd.trans ((group_encEw group0F00 4 h _).trans rfl)

theorem verwEw (e : Ew) : Statement (.verwEw e) := of_eq fun h rest => by
  have hd : decode (0x0F :: 0x00 :: (encEw 5 e ++ rest)) =
      pModRM (fun n e => group0F00 n (e.map Reg16.ofCode)) (encEw 5 e ++ rest) := rfl
  exact hd.trans ((group_encEw group0F00 5 h _).trans rfl)

theorem sgdtM (e : Ew) : Statement (.sgdtM e) := of_eq fun h rest => by
  have hd : decode (0x0F :: 0x01 :: (encEw 0 e ++ rest)) =
      pModRM (fun n e => group0F01 n (e.map Reg16.ofCode)) (encEw 0 e ++ rest) := rfl
  exact hd.trans ((group_encEw group0F01 0 (Rm.memWf_wf h) _).trans rfl)

theorem sidtM (e : Ew) : Statement (.sidtM e) := of_eq fun h rest => by
  have hd : decode (0x0F :: 0x01 :: (encEw 1 e ++ rest)) =
      pModRM (fun n e => group0F01 n (e.map Reg16.ofCode)) (encEw 1 e ++ rest) := rfl
  exact hd.trans ((group_encEw group0F01 1 (Rm.memWf_wf h) _).trans rfl)

theorem lgdtM (e : Ew) : Statement (.lgdtM e) := of_eq fun h rest => by
  have hd : decode (0x0F :: 0x01 :: (encEw 2 e ++ rest)) =
      pModRM (fun n e => group0F01 n (e.map Reg16.ofCode)) (encEw 2 e ++ rest) := rfl
  exact hd.trans ((group_encEw group0F01 2 (Rm.memWf_wf h) _).trans rfl)

theorem lidtM (e : Ew) : Statement (.lidtM e) := of_eq fun h rest => by
  have hd : decode (0x0F :: 0x01 :: (encEw 3 e ++ rest)) =
      pModRM (fun n e => group0F01 n (e.map Reg16.ofCode)) (encEw 3 e ++ rest) := rfl
  exact hd.trans ((group_encEw group0F01 3 (Rm.memWf_wf h) _).trans rfl)

theorem smswEw (e : Ew) : Statement (.smswEw e) := of_eq fun h rest => by
  have hd : decode (0x0F :: 0x01 :: (encEw 4 e ++ rest)) =
      pModRM (fun n e => group0F01 n (e.map Reg16.ofCode)) (encEw 4 e ++ rest) := rfl
  exact hd.trans ((group_encEw group0F01 4 h _).trans rfl)

theorem lmswEw (e : Ew) : Statement (.lmswEw e) := of_eq fun h rest => by
  have hd : decode (0x0F :: 0x01 :: (encEw 6 e ++ rest)) =
      pModRM (fun n e => group0F01 n (e.map Reg16.ofCode)) (encEw 6 e ++ rest) := rfl
  exact hd.trans ((group_encEw group0F01 6 h _).trans rfl)

theorem larRwEw (r : Reg16) (e : Ew) : Statement (.larRwEw r e) := of_eq fun h rest => by
  have hd : decode (0x0F :: 0x02 :: (encEw r.code e ++ rest)) =
      pRW (fun r e => .larRwEw r e) (encEw r.code e ++ rest) := rfl
  exact hd.trans (pRW_enc _ r h _)

theorem lslRwEw (r : Reg16) (e : Ew) : Statement (.lslRwEw r e) := of_eq fun h rest => by
  have hd : decode (0x0F :: 0x03 :: (encEw r.code e ++ rest)) =
      pRW (fun r e => .lslRwEw r e) (encEw r.code e ++ rest) := rfl
  exact hd.trans (pRW_enc _ r h _)

theorem ud83_1 : Statement (.ud83_1) := of_eq fun _ _ => rfl

theorem ud83_4 : Statement (.ud83_4) := of_eq fun _ _ => rfl

theorem ud83_6 : Statement (.ud83_6) := of_eq fun _ _ => rfl

theorem daa : Statement (.daa) := of_eq fun _ _ => rfl

theorem das : Statement (.das) := of_eq fun _ _ => rfl

theorem aaa : Statement (.aaa) := of_eq fun _ _ => rfl

theorem aas : Statement (.aas) := of_eq fun _ _ => rfl

theorem aam : Statement (.aam) := of_eq fun _ _ => rfl

theorem aad : Statement (.aad) := of_eq fun _ _ => rfl

theorem pushEs : Statement (.pushEs) := of_eq fun _ _ => rfl

theorem pushCs : Statement (.pushCs) := of_eq fun _ _ => rfl

theorem pushSs : Statement (.pushSs) := of_eq fun _ _ => rfl

theorem pushDs : Statement (.pushDs) := of_eq fun _ _ => rfl

theorem popEs : Statement (.popEs) := of_eq fun _ _ => rfl

theorem popSs : Statement (.popSs) := of_eq fun _ _ => rfl

theorem popDs : Statement (.popDs) := of_eq fun _ _ => rfl

theorem segEs : Statement (.segEs) := of_eq fun _ _ => rfl

theorem segCs : Statement (.segCs) := of_eq fun _ _ => rfl

theorem segSs : Statement (.segSs) := of_eq fun _ _ => rfl

theorem segDs : Statement (.segDs) := of_eq fun _ _ => rfl

theorem lock : Statement (.lock) := of_eq fun _ _ => rfl

theorem repne : Statement (.repne) := by
  intro _ rest h
  rw [h (by simp)]
  rfl

theorem rep : Statement (.rep) := by
  intro _ rest h
  rw [h (by simp)]
  rfl

theorem pusha : Statement (.pusha) := of_eq fun _ _ => rfl

theorem popa : Statement (.popa) := of_eq fun _ _ => rfl

theorem ud64 : Statement (.ud64) := of_eq fun _ _ => rfl

theorem ud65 : Statement (.ud65) := of_eq fun _ _ => rfl

theorem ud66 : Statement (.ud66) := of_eq fun _ _ => rfl

theorem ud67 : Statement (.ud67) := of_eq fun _ _ => rfl

theorem insb : Statement (.insb) := of_eq fun _ _ => rfl

theorem insw : Statement (.insw) := of_eq fun _ _ => rfl

theorem outsb : Statement (.outsb) := of_eq fun _ _ => rfl

theorem outsw : Statement (.outsw) := of_eq fun _ _ => rfl

theorem ud82 : Statement (.ud82) := of_eq fun _ _ => rfl

theorem ud8C_4 : Statement (.ud8C_4) := of_eq fun _ _ => rfl

theorem ud8C_5 : Statement (.ud8C_5) := of_eq fun _ _ => rfl

theorem ud8C_6 : Statement (.ud8C_6) := of_eq fun _ _ => rfl

theorem ud8C_7 : Statement (.ud8C_7) := of_eq fun _ _ => rfl

theorem ud8E_1 : Statement (.ud8E_1) := of_eq fun _ _ => rfl

theorem ud8E_4 : Statement (.ud8E_4) := of_eq fun _ _ => rfl

theorem ud8E_5 : Statement (.ud8E_5) := of_eq fun _ _ => rfl

theorem ud8E_6 : Statement (.ud8E_6) := of_eq fun _ _ => rfl

theorem ud8E_7 : Statement (.ud8E_7) := of_eq fun _ _ => rfl

theorem gp8F_1 : Statement (.gp8F_1) := of_eq fun _ _ => rfl

theorem gp8F_2 : Statement (.gp8F_2) := of_eq fun _ _ => rfl

theorem gp8F_3 : Statement (.gp8F_3) := of_eq fun _ _ => rfl

theorem gp8F_4 : Statement (.gp8F_4) := of_eq fun _ _ => rfl

theorem gp8F_5 : Statement (.gp8F_5) := of_eq fun _ _ => rfl

theorem gp8F_6 : Statement (.gp8F_6) := of_eq fun _ _ => rfl

theorem gp8F_7 : Statement (.gp8F_7) := of_eq fun _ _ => rfl

theorem nop : Statement (.nop) := of_eq fun _ _ => rfl

theorem cbw : Statement (.cbw) := of_eq fun _ _ => rfl

theorem cwd : Statement (.cwd) := of_eq fun _ _ => rfl

theorem wait : Statement (.wait) := of_eq fun _ _ => rfl

theorem pushf : Statement (.pushf) := of_eq fun _ _ => rfl

theorem popf : Statement (.popf) := of_eq fun _ _ => rfl

theorem sahf : Statement (.sahf) := of_eq fun _ _ => rfl

theorem lahf : Statement (.lahf) := of_eq fun _ _ => rfl

theorem movsb : Statement (.movsb) := of_eq fun _ _ => rfl

theorem movsw : Statement (.movsw) := of_eq fun _ _ => rfl

theorem cmpsb : Statement (.cmpsb) := of_eq fun _ _ => rfl

theorem cmpsw : Statement (.cmpsw) := of_eq fun _ _ => rfl

theorem stosb : Statement (.stosb) := of_eq fun _ _ => rfl

theorem stosw : Statement (.stosw) := of_eq fun _ _ => rfl

theorem lodsb : Statement (.lodsb) := of_eq fun _ _ => rfl

theorem lodsw : Statement (.lodsw) := of_eq fun _ _ => rfl

theorem scasb : Statement (.scasb) := of_eq fun _ _ => rfl

theorem scasw : Statement (.scasw) := of_eq fun _ _ => rfl

theorem udC0_6 : Statement (.udC0_6) := of_eq fun _ _ => rfl

theorem udC1_6 : Statement (.udC1_6) := of_eq fun _ _ => rfl

theorem udD0_6 : Statement (.udD0_6) := of_eq fun _ _ => rfl

theorem udD1_6 : Statement (.udD1_6) := of_eq fun _ _ => rfl

theorem udD2_6 : Statement (.udD2_6) := of_eq fun _ _ => rfl

theorem udD3_6 : Statement (.udD3_6) := of_eq fun _ _ => rfl

theorem retNear : Statement (.retNear) := of_eq fun _ _ => rfl

theorem udC6_1 : Statement (.udC6_1) := of_eq fun _ _ => rfl

theorem udC6_2 : Statement (.udC6_2) := of_eq fun _ _ => rfl

theorem udC6_3 : Statement (.udC6_3) := of_eq fun _ _ => rfl

theorem udC6_4 : Statement (.udC6_4) := of_eq fun _ _ => rfl

theorem udC6_5 : Statement (.udC6_5) := of_eq fun _ _ => rfl

theorem udC6_6 : Statement (.udC6_6) := of_eq fun _ _ => rfl

theorem udC6_7 : Statement (.udC6_7) := of_eq fun _ _ => rfl

theorem udC7_1 : Statement (.udC7_1) := of_eq fun _ _ => rfl

theorem udC7_2 : Statement (.udC7_2) := of_eq fun _ _ => rfl

theorem udC7_3 : Statement (.udC7_3) := of_eq fun _ _ => rfl

theorem udC7_4 : Statement (.udC7_4) := of_eq fun _ _ => rfl

theorem udC7_5 : Statement (.udC7_5) := of_eq fun _ _ => rfl

theorem udC7_6 : Statement (.udC7_6) := of_eq fun _ _ => rfl

theorem udC7_7 : Statement (.udC7_7) := of_eq fun _ _ => rfl

theorem leave : Statement (.leave) := of_eq fun _ _ => rfl

theorem retFar : Statement (.retFar) := of_eq fun _ _ => rfl

theorem int3 : Statement (.int3) := of_eq fun _ _ => rfl

theorem into : Statement (.into) := of_eq fun _ _ => rfl

theorem iret : Statement (.iret) := of_eq fun _ _ => rfl

theorem udD6 : Statement (.udD6) := of_eq fun _ _ => rfl

theorem xlatb : Statement (.xlatb) := of_eq fun _ _ => rfl

theorem inAlDx : Statement (.inAlDx) := of_eq fun _ _ => rfl

theorem inAxDx : Statement (.inAxDx) := of_eq fun _ _ => rfl

theorem outDxAl : Statement (.outDxAl) := of_eq fun _ _ => rfl

theorem outDxAx : Statement (.outDxAx) := of_eq fun _ _ => rfl

theorem udF1 : Statement (.udF1) := of_eq fun _ _ => rfl

theorem hlt : Statement (.hlt) := of_eq fun _ _ => rfl

theorem cmc : Statement (.cmc) := of_eq fun _ _ => rfl

theorem udF6_1 : Statement (.udF6_1) := of_eq fun _ _ => rfl

theorem udF7_1 : Statement (.udF7_1) := of_eq fun _ _ => rfl

theorem clc : Statement (.clc) := of_eq fun _ _ => rfl

theorem stc : Statement (.stc) := of_eq fun _ _ => rfl

theorem cli : Statement (.cli) := of_eq fun _ _ => rfl

theorem sti : Statement (.sti) := of_eq fun _ _ => rfl

theorem cld : Statement (.cld) := of_eq fun _ _ => rfl

theorem std : Statement (.std) := of_eq fun _ _ => rfl

theorem udFE_2 : Statement (.udFE_2) := of_eq fun _ _ => rfl

theorem udFE_3 : Statement (.udFE_3) := of_eq fun _ _ => rfl

theorem udFE_4 : Statement (.udFE_4) := of_eq fun _ _ => rfl

theorem udFE_5 : Statement (.udFE_5) := of_eq fun _ _ => rfl

theorem udFE_6 : Statement (.udFE_6) := of_eq fun _ _ => rfl

theorem udFE_7 : Statement (.udFE_7) := of_eq fun _ _ => rfl

theorem gpFF_7 : Statement (.gpFF_7) := of_eq fun _ _ => rfl

theorem ud0F00_6 : Statement (.ud0F00_6) := of_eq fun _ _ => rfl

theorem ud0F00_7 : Statement (.ud0F00_7) := of_eq fun _ _ => rfl

theorem ud0F01_5 : Statement (.ud0F01_5) := of_eq fun _ _ => rfl

theorem ud0F01_7 : Statement (.ud0F01_7) := of_eq fun _ _ => rfl

theorem clts : Statement (.clts) := of_eq fun _ _ => rfl

theorem repInsb : Statement (.repInsb) := of_eq fun _ _ => rfl

theorem repInsw : Statement (.repInsw) := of_eq fun _ _ => rfl

theorem repMovsb : Statement (.repMovsb) := of_eq fun _ _ => rfl

theorem repMovsw : Statement (.repMovsw) := of_eq fun _ _ => rfl

theorem repOutsb : Statement (.repOutsb) := of_eq fun _ _ => rfl

theorem repOutsw : Statement (.repOutsw) := of_eq fun _ _ => rfl

theorem repStosb : Statement (.repStosb) := of_eq fun _ _ => rfl

theorem repStosw : Statement (.repStosw) := of_eq fun _ _ => rfl

theorem repLodsb : Statement (.repLodsb) := of_eq fun _ _ => rfl

theorem repLodsw : Statement (.repLodsw) := of_eq fun _ _ => rfl

theorem repeCmpsb : Statement (.repeCmpsb) := of_eq fun _ _ => rfl

theorem repeCmpsw : Statement (.repeCmpsw) := of_eq fun _ _ => rfl

theorem repeScasb : Statement (.repeScasb) := of_eq fun _ _ => rfl

theorem repeScasw : Statement (.repeScasw) := of_eq fun _ _ => rfl

theorem repneCmpsb : Statement (.repneCmpsb) := of_eq fun _ _ => rfl

theorem repneCmpsw : Statement (.repneCmpsw) := of_eq fun _ _ => rfl

theorem repneScasb : Statement (.repneScasb) := of_eq fun _ _ => rfl

theorem repneScasw : Statement (.repneScasw) := of_eq fun _ _ => rfl

end Sys2Proof.Laws.RoundTrip
end

