-- ==== Sys2Proof/Laws/Segment.lean ====
section
/-!
SUPPORT. All that the load of a segment register does, in both modes.
-/

namespace Sys2Proof.Machine

/-- The base of a Real Address Mode load is sixteen times the selector (10 R54). -/
theorem realSeg_base (sel : Word) : (realSeg sel).base.toNat = 16 * sel.toNat := by
  have := sel.isLt
  simp only [realSeg, zext24, BitVec.toNat_shiftLeft, BitVec.toNat_setWidth, Nat.shiftLeft_eq]
  omega

theorem State.applySreg_field (s : State) (r : SReg) (sel : Word) :
    (s.applySreg r sel).regs = s.regs ∧ (s.applySreg r sel).ip = s.ip ∧ (s.applySreg r sel).flags = s.flags ∧
    (s.applySreg r sel).msw = s.msw ∧ SameTables s (s.applySreg r sel) ∧ SameHidden s (s.applySreg r sel) ∧
    (s.applySreg r sel).draw = s.draw := by
  unfold State.applySreg
  split
  · cases r <;> exact ⟨rfl, rfl, rfl, rfl, ⟨rfl, rfl, rfl, rfl⟩, ⟨rfl, rfl, rfl, rfl, rfl, rfl, rfl, rfl, rfl, rfl, rfl⟩, rfl⟩
  · split <;> cases r <;>
      exact ⟨rfl, rfl, rfl, rfl, ⟨rfl, rfl, rfl, rfl⟩, ⟨rfl, rfl, rfl, rfl, rfl, rfl, rfl, rfl, rfl, rfl, rfl⟩, rfl⟩

@[simp] theorem State.applySreg_regs (s : State) (r : SReg) (sel : Word) : (s.applySreg r sel).regs = s.regs :=
  (s.applySreg_field r sel).1
@[simp] theorem State.applySreg_ip (s : State) (r : SReg) (sel : Word) : (s.applySreg r sel).ip = s.ip :=
  (s.applySreg_field r sel).2.1
@[simp] theorem State.applySreg_flags (s : State) (r : SReg) (sel : Word) : (s.applySreg r sel).flags = s.flags :=
  (s.applySreg_field r sel).2.2.1
@[simp] theorem State.applySreg_msw (s : State) (r : SReg) (sel : Word) : (s.applySreg r sel).msw = s.msw :=
  (s.applySreg_field r sel).2.2.2.1
@[simp] theorem State.applySreg_cur (s : State) (r : SReg) (sel : Word) : (s.applySreg r sel).cur = s.cur :=
  (s.applySreg_field r sel).2.2.2.2.2.1.2.2.2.2.2.2.1

theorem State.setSeg_seg (s : State) (r q : SReg) (g : Seg) : (s.setSeg r g).seg q = if q = r then g else s.seg q := by
  cases r <;> cases q <;> rfl

/-- A load with what the instruction does around it (registers, IP, the inhibit of a load of SS) leaves the register and
its cache as the mode says. -/
theorem SregLoaded.of_apply {s u : State} {r : SReg} {sel : Word} (h : Canonical s)
    (hseg : ∀ q, u.seg q = (s.applySreg r sel).seg q) (hmem : u.mem = (s.applySreg r sel).mem)
    (hmsw : u.msw = s.msw) (htab : SameTables s u) (hhid : SameHidden (if r = .ss then s.inhibit .ss else s) u)
    (hfl : u.flags = s.flags) (hip : u.ip = s.nextIp) : SregLoaded s u r sel where
  real hp := by
    have ha : s.applySreg r sel = s.setSeg r (realSeg sel) := by simp [State.applySreg, hp]
    rw [ha] at hseg hmem
    have hr : u.seg r = realSeg sel := by rw [hseg, State.setSeg_seg, if_pos rfl]
    rw [hr]
    exact ⟨rfl, realSeg_base sel, rfl, rfl, fun k _ => by rw [hmem]; cases r <;> rfl⟩
  null hp hn := by
    have ha : s.applySreg r sel = s.setSeg r ((s.seg r).nulled sel) := by simp [State.applySreg, hp, hn]
    rw [ha] at hseg hmem
    have hr : u.seg r = (s.seg r).nulled sel := by rw [hseg, State.setSeg_seg, if_pos rfl]
    rw [hr]
    exact ⟨rfl, rfl, fun k _ => by rw [hmem]; cases r <;> rfl⟩
  descriptor hp hn := by
    have ha : s.applySreg r sel = s.loadSeg r sel (s.desc sel) := by simp [State.applySreg, hp, hn]
    rw [ha] at hseg hmem
    have hr : u.seg r = (s.desc sel).toSeg sel := by rw [hseg, State.loadSeg, State.setSeg_seg, if_pos rfl]
    have hm : u.mem = (s.writeByte (s.descAddr sel + 5) ((s.desc sel).access ||| 1)).mem := by
      rw [hmem]; cases r <;> rfl
    rw [hr]
    refine ⟨rfl, rfl, rfl, rfl, rfl, ?_, ?_⟩
    · intro hrom; rw [hm]; exact State.writeByte_holds h _ _ hrom
    · intro k hk; rw [hm]; exact State.writeByte_frame s _ _ k hk
  others q hq := by
    rw [hseg]
    unfold State.applySreg
    split
    · rw [State.setSeg_seg, if_neg hq]
    · split
      · rw [State.setSeg_seg, if_neg hq]
      · rw [State.loadSeg, State.setSeg_seg, if_neg hq]; cases q <;> rfl
  msw := hmsw
  tables := htab
  hidden := hhid
  flags := hfl
  ip := hip

end Sys2Proof.Machine
end

