-- ==== Sys2Proof/Tests/Slice0.lean ====
section
/-!
SUPPORT. The author's tests: WellFormed refuses an ill-formed term for each of its checks; every row of the opcode
table decodes from bytes written out from 30 R260-R289; single steps whose results are the worked examples of the
rules (file 95); and, for each statement with hypotheses, a state and operands that meet them (`witness_`).
-/

namespace Sys2Proof.Tests

set_option Elab.async false

open Sys2Proof Sys2Proof.Machine

/-! ### Helpers -/

/-- `m` with bytes stored from address `a` on. -/
def put (a : Nat) : List Byte → List Host.Cell → List Host.Cell
  | [], m => m
  | b :: t, m => put (a + 1) t (writeCell m a b)

/-- The bytes of words, low byte first. -/
def bytesOf (l : List Word) : List Byte := l.flatMap fun w => [w.lo, w.hi]

/-- The cells of bytes from address `a` on. -/
def block (a : Nat) : List Byte → List Host.Cell
  | [] => []
  | b :: t => if b = unlistedByte then block (a + 1) t else (a, b) :: block (a + 1) t

/-- Word registers written. -/
def withRegs (l : List (Reg16 × Word)) (s : State) : State := l.foldl (fun s p => s.setReg p.1 p.2) s

/-- FLAGS written. -/
def withFlags (w : Word) (s : State) : State := s.setFlags (Flags.ofWord w)

/-- Real Address Mode, every segment base 0, SP 0100H, `code` at CS:IP = 0000:0500, `m` for the rest of memory. -/
def real (code : List Byte) (l : List (Reg16 × Word) := []) (m : List Host.Cell := []) : State :=
  withRegs l { State.reset with
    cs := realSeg 0, ip := 0x0500, regs := { Regs.zero with sp := 0x0100 }, mem := put 0x0500 code m }

/-- The state after one step; a step that stops gives the reset state. -/
def after (s : State) : State :=
  match step s with
  | .next t => t
  | .fault _ => State.reset
  | .refused _ => State.reset

/-- The word of memory at physical address `a`. -/
def word (s : State) (a : Nat) : Word := wordOf (readCell s.mem (a + 1)) (readCell s.mem a)

/-- CF, PF, AF, ZF, SF, OF, in the order of file 95. -/
def six (s : State) : Nat × Nat × Nat × Nat × Nat × Nat :=
  (s.flags.cf.toNat, s.flags.pf.toNat, s.flags.af.toNat, s.flags.zf.toNat, s.flags.sf.toNat, s.flags.of.toNat)

/-- Each list of bytes decodes to its instruction, with nothing left over. -/
def decodesTo (l : List (List Byte × Instr)) : Bool :=
  l.all fun p => match decode p.1 with
    | .ok (i, rest) => i == p.2 && rest.isEmpty
    | .error _ => false

/-- An exception-raising check that passes. -/
def passes (c : Except Exn Unit) : Bool :=
  match c with
  | .ok _ => true
  | .error _ => false

theorem of_passes {c : Except Exn Unit} (h : passes c = true) : c = .ok () := by
  cases c with
  | ok a => rfl
  | error e => exact absurd h (by simp [passes])

/-- A segment or system descriptor: limit, base, access byte (21 R164). -/
def descBytes (limit : Word) (base : Addr) (access : Byte) : List Byte :=
  bytesOf [limit, base.setWidth 16] ++ [(base >>> 16).setWidth 8, access, 0, 0]

/-- A gate: offset, selector, word count, access byte (21 R170). -/
def gateBytes (off sel : Word) (count access : Byte) : List Byte := bytesOf [off, sel] ++ [count, access, 0, 0]

/-- A GDT at 000800H: code and data of level 0 (0008H, 0010H) and of level 3 (0018H, 0020H), a call gate with two
parameters (0028H), an available TSS (0030H), an LDT (0038H), a busy TSS (0040H), a call gate to level 3 (0048H), a
task gate (0050H), conforming code (0058H), data that is not present (0060H), execute-only code (0068H). -/
def gdt : List Byte :=
  List.replicate 8 0 ++ descBytes 0x0FFF 0x010000 0x9A ++ descBytes 0x0FFF 0x020000 0x92 ++
  descBytes 0x7FFF 0x030000 0xFA ++ descBytes 0x7FFF 0x040000 0xF2 ++ gateBytes 0x0200 0x0008 2 0xE4 ++
  descBytes 0x002B 0x002000 0x81 ++ descBytes 0x0027 0x003000 0x82 ++ descBytes 0x002B 0x002100 0x83 ++
  gateBytes 0x0040 0x001B 0 0xE4 ++ gateBytes 0 0x0030 0 0xE5 ++ descBytes 0x0FFF 0x050000 0x9E ++
  descBytes 0x0FFF 0x060000 0x12 ++ descBytes 0x0FFF 0x070000 0x98

/-- An IDT at 001000H: interrupt gates to 0008H for vectors 0 to 16, vector `n` at offset 0300H + 10H * `n`, those of
3 and 4 trap gates of DPL 3; vector 17 is a task gate. -/
def idt : List Byte :=
  ((List.range 17).flatMap fun n =>
    gateBytes (BitVec.ofNat 16 (0x300 + 16 * n)) 0x0008 0 (if n = 3 ∨ n = 4 then 0xE7 else 0x86)) ++
  gateBytes 0 0x0030 0 0xE5

/-- The incoming TSS at 002000H (47 R694's example). -/
def newTss : List Byte :=
  bytesOf [0, 0, 0, 0, 0, 0, 0, 0, 0x0202, 0, 0, 0, 0, 0x0400, 0, 0, 0, 0, 0x0008, 0x0010, 0, 0]

/-- The current TSS at 002100H, with the stack of level 0 at 0010:0800. -/
def oldTss : List Byte := bytesOf [0x0000, 0x0800, 0x0010]

/-- The tables and TSSs, then `m`, whose cells lie above 003000H. -/
def tables (m : List Host.Cell) : List Host.Cell :=
  block 0x000800 gdt ++ block 0x001000 idt ++ block 0x002000 newTss ++ block 0x002100 oldTss ++ m

/-- The cache of a descriptor of `gdt`. -/
def cache (sel : Word) (base : Addr) (limit : Word) (access : Byte) : Seg :=
  { sel := sel, base := base, limit := limit, access := access, valid := true }

/-- Protected Mode, CPL 0, `code` at CS:IP = 0008:0100, SS:SP = 0010:0100, `m` above it. -/
def kern (code : List Byte) (l : List (Reg16 × Word) := []) (m : List Host.Cell := []) : State :=
  withRegs l { State.reset with
    msw := { pe := true, mp := false, em := false, ts := false }
    cs := cache 0x0008 0x010000 0x0FFF 0x9B, ss := cache 0x0010 0x020000 0x0FFF 0x93
    ds := cache 0x0010 0x020000 0x0FFF 0x93, es := cache 0x0010 0x020000 0x0FFF 0x93
    gdtr := { base := 0x000800, limit := 0x006F }, idtr := { base := 0x001000, limit := 0x008F }
    tr := { sel := 0x0040, base := 0x002100, limit := 0x002B, valid := true }
    ip := 0x0100, regs := { Regs.zero with sp := 0x0100 }, mem := tables (block 0x010100 code ++ m) }

/-- Protected Mode, CPL 3, `code` at CS:IP = 001B:0100, SS:SP = 0023:0100, DS as SS, ES null, `m` above it. -/
def user (code : List Byte) (l : List (Reg16 × Word) := []) (m : List Host.Cell := []) : State :=
  withRegs l { kern [] with
    cs := cache 0x001B 0x030000 0x7FFF 0xFB, ss := cache 0x0023 0x040000 0x7FFF 0xF3
    ds := cache 0x0023 0x040000 0x7FFF 0xF3, es := (cache 0 0 0 0).nulled 0
    mem := tables (block 0x030100 code ++ m) }

/-! ### WellFormed -/

/-- `[BP]` without displacement has no encoding (30 R272). -/
theorem test_wf_bp : (Instr.movRwEw .ax (.mem (.idx .bp .none))).wf = false := by decide
/-- LEA of a register is no instruction (30 R268). -/
theorem test_wf_lea_register : (Instr.leaRwM .ax (.reg .bx)).wf = false := by decide
/-- A memory-only operand needs an encoding too. -/
theorem test_wf_bound_bp : (Instr.boundRwMd .ax (.mem (.idx .bp .none))).wf = false := by decide
/-- XCHG AX,AX is NOP (30 R300). -/
theorem test_wf_xchg_ax : (Instr.xchgAxRw .ax).wf = false := by decide
/-- 0F 00 is not the undefined row (30 R287). -/
theorem test_wf_0F00 : (Instr.ud0F 0x00).wf = false := by decide
/-- `[BP+0]` is well-formed. -/
theorem test_wf_bp_disp : (Instr.movRwEw .ax (.mem (.idx .bp (.d8 0)))).wf = true := by decide

/-! ### Decoding (30 R260-R289) -/

theorem test_decode_arithmetic_1 : decodesTo [
  ([0x00, 0xC0], .addEbRb (.reg .al) .al),
  ([0x01, 0x08], .addEwRw (.mem (.idx .bxSi .none)) .cx),
  ([0x02, 0x11], .addRbEb .dl (.mem (.idx .bxDi .none))),
  ([0x03, 0xD9], .addRwEw .bx (.reg .cx)),
  ([0x04, 0x9C], .addAlDb 0x9C),
  ([0x05, 0xAF, 0xA6], .addAxDw 0xA6AF),
  ([0x80, 0xC2, 0xCA], .addEbDb (.reg .dl) 0xCA),
  ([0x81, 0x02, 0x5D, 0xCD], .addEwDw (.mem (.idx .bpSi .none)) 0xCD5D),
  ([0x83, 0x03, 0xF8], .addEwDb (.mem (.idx .bpDi .none)) 0xF8),
  ([0x10, 0xC6], .adcEbRb (.reg .dh) .al),
  ([0x11, 0x48, 0x80], .adcEwRw (.mem (.idx .bxSi (.d8 0x80))) .cx),
  ([0x12, 0x51, 0x81], .adcRbEb .dl (.mem (.idx .bxDi (.d8 0x81)))),
  ([0x13, 0xDF], .adcRwEw .bx (.reg .di)),
  ([0x14, 0x82], .adcAlDb 0x82),
  ([0x15, 0x15, 0x68], .adcAxDw 0x6815),
  ([0x80, 0xD0, 0xB0], .adcEbDb (.reg .al) 0xB0),
  ([0x81, 0x52, 0x82, 0xC3, 0x8E], .adcEwDw (.mem (.idx .bpSi (.d8 0x82))) 0x8EC3),
  ([0x83, 0x53, 0x83, 0xDE], .adcEwDb (.mem (.idx .bpDi (.d8 0x83))) 0xDE),
  ([0x18, 0xE1], .sbbEbRb (.reg .cl) .ah),
  ([0x19, 0x6C, 0x84], .sbbEwRw (.mem (.idx .si (.d8 0x84))) .bp),
  ([0x1A, 0x75, 0x85], .sbbRbEb .dh (.mem (.idx .di (.d8 0x85)))),
  ([0x1B, 0xFA], .sbbRwEw .di (.reg .dx)),
  ([0x1C, 0xF5], .sbbAlDb 0xF5),
  ([0x1D, 0xC8, 0xC8], .sbbAxDw 0xC8C8)] = true := by decide +kernel

theorem test_decode_arithmetic_2 : decodesTo [
  ([0x80, 0xDB, 0x23], .sbbEbDb (.reg .bl) 0x23),
  ([0x81, 0x5E, 0x86, 0x76, 0xEF], .sbbEwDw (.mem (.idx .bp (.d8 0x86))) 0xEF76),
  ([0x83, 0x5F, 0x87, 0x51], .sbbEwDb (.mem (.idx .bx (.d8 0x87))) 0x51),
  ([0x28, 0xE7], .subEbRb (.reg .bh) .ah),
  ([0x29, 0xAC, 0x44, 0x90], .subEwRw (.mem (.idx .si (.d16 0x9044))) .bp),
  ([0x2A, 0xB5, 0x45, 0x90], .subRbEb .dh (.mem (.idx .di (.d16 0x9045)))),
  ([0x2B, 0xF8], .subRwEw .di (.reg .ax)),
  ([0x2C, 0xDB], .subAlDb 0xDB),
  ([0x2D, 0x2E, 0x8A], .subAxDw 0x8A2E),
  ([0x80, 0xE9, 0x09], .subEbDb (.reg .cl) 0x09),
  ([0x81, 0xAE, 0x46, 0x90, 0xDC, 0xB0], .subEwDw (.mem (.idx .bp (.d16 0x9046))) 0xB0DC),
  ([0x83, 0xAF, 0x47, 0x90, 0x37], .subEwDb (.mem (.idx .bx (.d16 0x9047))) 0x37),
  ([0x38, 0xE5], .cmpEbRb (.reg .ch) .ah),
  ([0x39, 0x2C], .cmpEwRw (.mem (.idx .si .none)) .bp),
  ([0x3A, 0x35], .cmpRbEb .dh (.mem (.idx .di .none))),
  ([0x3B, 0xFE], .cmpRwEw .di (.reg .si)),
  ([0x3C, 0xC1], .cmpAlDb 0xC1),
  ([0x3D, 0x94, 0x4B], .cmpAxDw 0x4B94),
  ([0x80, 0xFF, 0xEF], .cmpEbDb (.reg .bh) 0xEF),
  ([0x81, 0x3E, 0x34, 0x12, 0x42, 0x72], .cmpEwDw (.mem (.direct 0x1234)) 0x7242),
  ([0x83, 0x3F, 0x1D], .cmpEwDb (.mem (.idx .bx .none)) 0x1D),
  ([0x27], .daa),
  ([0x2F], .das),
  ([0x37], .aaa)] = true := by decide +kernel

theorem test_decode_arithmetic_3 : decodesTo [
  ([0x3F], .aas),
  ([0xD4, 0x0A], .aam),
  ([0xD5, 0x0A], .aad),
  ([0x40], .incRw .ax),
  ([0x49], .decRw .cx),
  ([0x69, 0x72, 0x82, 0x9E, 0xBF], .imulRwEwDw .si (.mem (.idx .bpSi (.d8 0x82))) 0xBF9E),
  ([0x6B, 0xF8, 0x90], .imulRwEwDb .di (.reg .ax) 0x90),
  ([0x98], .cbw),
  ([0x99], .cwd),
  ([0xF6, 0x1F], .negEb (.mem (.idx .bx .none))),
  ([0xF6, 0x60, 0x80], .mulEb (.mem (.idx .bxSi (.d8 0x80)))),
  ([0xF6, 0xEB], .imulEb (.reg .bl)),
  ([0xF6, 0x71, 0x81], .divEb (.mem (.idx .bxDi (.d8 0x81)))),
  ([0xF6, 0x7A, 0x82], .idivEb (.mem (.idx .bpSi (.d8 0x82)))),
  ([0xF7, 0xDD], .negEw (.reg .bp)),
  ([0xF7, 0x65, 0x85], .mulEw (.mem (.idx .di (.d8 0x85)))),
  ([0xF7, 0x6E, 0x86], .imulEw (.mem (.idx .bp (.d8 0x86)))),
  ([0xF7, 0xF6], .divEw (.reg .si)),
  ([0xF7, 0x7F, 0x87], .idivEw (.mem (.idx .bx (.d8 0x87)))),
  ([0xFE, 0x80, 0x40, 0x90], .incEb (.mem (.idx .bxSi (.d16 0x9040)))),
  ([0xFE, 0xCF], .decEb (.reg .bh)),
  ([0xFF, 0x85, 0x45, 0x90], .incEw (.mem (.idx .di (.d16 0x9045)))),
  ([0xFF, 0x8E, 0x46, 0x90], .decEw (.mem (.idx .bp (.d16 0x9046))))] = true := by decide +kernel

theorem test_decode_logic_1 : decodesTo [
  ([0x08, 0xE3], .orEbRb (.reg .bl) .ah),
  ([0x09, 0x2C], .orEwRw (.mem (.idx .si .none)) .bp),
  ([0x0A, 0x35], .orRbEb .dh (.mem (.idx .di .none))),
  ([0x0B, 0xFC], .orRwEw .di (.reg .sp)),
  ([0x0C, 0x0F], .orAlDb 0x0F),
  ([0x0D, 0x62, 0x07], .orAxDw 0x0762),
  ([0x80, 0xCD, 0x3D], .orEbDb (.reg .ch) 0x3D),
  ([0x81, 0x0E, 0x34, 0x12, 0x10, 0x2E], .orEwDw (.mem (.direct 0x1234)) 0x2E10),
  ([0x20, 0xC4], .andEbRb (.reg .ah) .al),
  ([0x21, 0x88, 0x40, 0x90], .andEwRw (.mem (.idx .bxSi (.d16 0x9040))) .cx),
  ([0x22, 0x91, 0x41, 0x90], .andRbEb .dl (.mem (.idx .bxDi (.d16 0x9041)))),
  ([0x23, 0xDD], .andRwEw .bx (.reg .bp)),
  ([0x24, 0x68], .andAlDb 0x68),
  ([0x25, 0x7B, 0x29], .andAxDw 0x297B),
  ([0x80, 0xE6, 0x96], .andEbDb (.reg .dh) 0x96),
  ([0x81, 0xA2, 0x42, 0x90, 0x29, 0x50], .andEwDw (.mem (.idx .bpSi (.d16 0x9042))) 0x5029),
  ([0x30, 0xC2], .xorEbRb (.reg .dl) .al),
  ([0x31, 0x08], .xorEwRw (.mem (.idx .bxSi .none)) .cx),
  ([0x32, 0x11], .xorRbEb .dl (.mem (.idx .bxDi .none))),
  ([0x33, 0xDB], .xorRwEw .bx (.reg .bx)),
  ([0x34, 0x4E], .xorAlDb 0x4E),
  ([0x35, 0xE1, 0xEA], .xorAxDw 0xEAE1),
  ([0x80, 0xF4, 0x7C], .xorEbDb (.reg .ah) 0x7C),
  ([0x81, 0x32, 0x8F, 0x11], .xorEwDw (.mem (.idx .bpSi .none)) 0x118F)] = true := by decide +kernel

theorem test_decode_logic_2 : decodesTo [
  ([0x84, 0x43, 0x83], .testEbRb (.mem (.idx .bpDi (.d8 0x83))) .al),
  ([0x85, 0x4C, 0x84], .testEwRw (.mem (.idx .si (.d8 0x84))) .cx),
  ([0xA8, 0x8A], .testAlDb 0x8A),
  ([0xA9, 0x1D, 0xA3], .testAxDw 0xA31D),
  ([0xC0, 0x41, 0x81, 0xE6], .rolEbDb (.mem (.idx .bxDi (.d8 0x81))) 0xE6),
  ([0xC0, 0xCC, 0xFD], .rorEbDb (.reg .ah) 0xFD),
  ([0xC0, 0x52, 0x82, 0x14], .rclEbDb (.mem (.idx .bpSi (.d8 0x82))) 0x14),
  ([0xC0, 0x5B, 0x83, 0x2B], .rcrEbDb (.mem (.idx .bpDi (.d8 0x83))) 0x2B),
  ([0xC0, 0xE5, 0x42], .salEbDb (.reg .ch) 0x42),
  ([0xC0, 0x6C, 0x84, 0x59], .shrEbDb (.mem (.idx .si (.d8 0x84))) 0x59),
  ([0xC0, 0x7D, 0x85, 0x70], .sarEbDb (.mem (.idx .di (.d8 0x85))) 0x70),
  ([0xC1, 0x46, 0x86, 0x9E], .rolEwDb (.mem (.idx .bp (.d8 0x86))) 0x9E),
  ([0xC1, 0x4F, 0x87, 0xB5], .rorEwDb (.mem (.idx .bx (.d8 0x87))) 0xB5),
  ([0xC1, 0xD7, 0xCC], .rclEwDb (.reg .di) 0xCC),
  ([0xC1, 0x98, 0x40, 0x90, 0xE3], .rcrEwDb (.mem (.idx .bxSi (.d16 0x9040))) 0xE3),
  ([0xC1, 0xA1, 0x41, 0x90, 0xFA], .salEwDb (.mem (.idx .bxDi (.d16 0x9041))) 0xFA),
  ([0xC1, 0xE8, 0x11], .shrEwDb (.reg .ax) 0x11),
  ([0xC1, 0xBA, 0x42, 0x90, 0x28], .sarEwDb (.mem (.idx .bpSi (.d16 0x9042))) 0x28),
  ([0xD0, 0xC1], .rolEb1 (.reg .cl)),
  ([0xD0, 0x8C, 0x44, 0x90], .rorEb1 (.mem (.idx .si (.d16 0x9044)))),
  ([0xD0, 0x95, 0x45, 0x90], .rclEb1 (.mem (.idx .di (.d16 0x9045)))),
  ([0xD0, 0xDA], .rcrEb1 (.reg .dl)),
  ([0xD0, 0xA6, 0x46, 0x90], .salEb1 (.mem (.idx .bp (.d16 0x9046)))),
  ([0xD0, 0xAF, 0x47, 0x90], .shrEb1 (.mem (.idx .bx (.d16 0x9047))))] = true := by decide +kernel

theorem test_decode_logic_3 : decodesTo [
  ([0xD0, 0xFB], .sarEb1 (.reg .bl)),
  ([0xD1, 0x01], .rolEw1 (.mem (.idx .bxDi .none))),
  ([0xD1, 0xCC], .rorEw1 (.reg .sp)),
  ([0xD1, 0x12], .rclEw1 (.mem (.idx .bpSi .none))),
  ([0xD1, 0x1B], .rcrEw1 (.mem (.idx .bpDi .none))),
  ([0xD1, 0xE5], .salEw1 (.reg .bp)),
  ([0xD1, 0x2C], .shrEw1 (.mem (.idx .si .none))),
  ([0xD1, 0x3D], .sarEw1 (.mem (.idx .di .none))),
  ([0xD2, 0x06, 0x34, 0x12], .rolEbCl (.mem (.direct 0x1234))),
  ([0xD2, 0x0F], .rorEbCl (.mem (.idx .bx .none))),
  ([0xD2, 0xD7], .rclEbCl (.reg .bh)),
  ([0xD2, 0x58, 0x80], .rcrEbCl (.mem (.idx .bxSi (.d8 0x80)))),
  ([0xD2, 0x61, 0x81], .salEbCl (.mem (.idx .bxDi (.d8 0x81)))),
  ([0xD2, 0xE8], .shrEbCl (.reg .al)),
  ([0xD2, 0x7A, 0x82], .sarEbCl (.mem (.idx .bpSi (.d8 0x82)))),
  ([0xD3, 0xC1], .rolEwCl (.reg .cx)),
  ([0xD3, 0x4C, 0x84], .rorEwCl (.mem (.idx .si (.d8 0x84)))),
  ([0xD3, 0x55, 0x85], .rclEwCl (.mem (.idx .di (.d8 0x85)))),
  ([0xD3, 0xDA], .rcrEwCl (.reg .dx)),
  ([0xD3, 0x66, 0x86], .salEwCl (.mem (.idx .bp (.d8 0x86)))),
  ([0xD3, 0x6F, 0x87], .shrEwCl (.mem (.idx .bx (.d8 0x87)))),
  ([0xD3, 0xFB], .sarEwCl (.reg .bx)),
  ([0xF6, 0x05, 0x0B], .testEbDb (.mem (.idx .di .none)) 0x0B),
  ([0xF6, 0xD2], .notEb (.reg .dl))] = true := by decide +kernel

theorem test_decode_logic_4 : decodesTo [
  ([0xF7, 0xC4, 0x5E, 0x95], .testEwDw (.reg .sp) 0x955E),
  ([0xF7, 0x54, 0x84], .notEw (.mem (.idx .si (.d8 0x84))))] = true := by decide +kernel

theorem test_decode_invalid_1 : decodesTo [
  ([0x83, 0x0F, 0x6B], .ud83_1),
  ([0x83, 0xA3, 0x43, 0x90, 0xC4], .ud83_4),
  ([0x83, 0x33, 0xAA], .ud83_6),
  ([0x0F, 0x05], .ud0F 0x05),
  ([0x64], .ud64),
  ([0x65], .ud65),
  ([0x66], .ud66),
  ([0x67], .ud67),
  ([0x82], .ud82),
  ([0x8C, 0xA3, 0x43, 0x90], .ud8C_4),
  ([0x8C, 0xAC, 0x44, 0x90], .ud8C_5),
  ([0x8C, 0xF5], .ud8C_6),
  ([0x8C, 0xBD, 0x45, 0x90], .ud8C_7),
  ([0x8E, 0xCF], .ud8E_1),
  ([0x8E, 0x21], .ud8E_4),
  ([0x8E, 0x2A], .ud8E_5),
  ([0x8E, 0xF0], .ud8E_6),
  ([0x8E, 0x3B], .ud8E_7),
  ([0x8F, 0xC9], .gp8F_1),
  ([0x8F, 0x15], .gp8F_2),
  ([0x8F, 0x1E, 0x34, 0x12], .gp8F_3),
  ([0x8F, 0xE2], .gp8F_4),
  ([0x8F, 0x2F], .gp8F_5),
  ([0x8F, 0x70, 0x80], .gp8F_6)] = true := by decide +kernel

theorem test_decode_invalid_2 : decodesTo [
  ([0x8F, 0xFB], .gp8F_7),
  ([0xC0, 0xF6, 0x87], .udC0_6),
  ([0xC1, 0xB3, 0x43, 0x90, 0x3F], .udC1_6),
  ([0xD0, 0x30], .udD0_6),
  ([0xD1, 0xF6], .udD1_6),
  ([0xD2, 0x73, 0x83], .udD2_6),
  ([0xD3, 0xB0, 0x40, 0x90], .udD3_6),
  ([0xC6, 0x8C, 0x44, 0x90], .udC6_1),
  ([0xC6, 0xD5], .udC6_2),
  ([0xC6, 0x9D, 0x45, 0x90], .udC6_3),
  ([0xC6, 0xA6, 0x46, 0x90], .udC6_4),
  ([0xC6, 0xEE], .udC6_5),
  ([0xC6, 0xB7, 0x47, 0x90], .udC6_6),
  ([0xC6, 0x38], .udC6_7),
  ([0xC7, 0xCF], .udC7_1),
  ([0xC7, 0x11], .udC7_2),
  ([0xC7, 0x1A], .udC7_3),
  ([0xC7, 0xE0], .udC7_4),
  ([0xC7, 0x2B], .udC7_5),
  ([0xC7, 0x34], .udC7_6),
  ([0xC7, 0xF9], .udC7_7),
  ([0xD6], .udD6),
  ([0xF1], .udF1),
  ([0xF6, 0x0E, 0x34, 0x12], .udF6_1)] = true := by decide +kernel

theorem test_decode_invalid_3 : decodesTo [
  ([0xF7, 0x4B, 0x83], .udF7_1),
  ([0xFE, 0x91, 0x41, 0x90], .udFE_2),
  ([0xFE, 0x9A, 0x42, 0x90], .udFE_3),
  ([0xFE, 0xE0], .udFE_4),
  ([0xFE, 0xAB, 0x43, 0x90], .udFE_5),
  ([0xFE, 0xB4, 0x44, 0x90], .udFE_6),
  ([0xFE, 0xF9], .udFE_7),
  ([0xFF, 0x3B], .gpFF_7),
  ([0x0F, 0x00, 0xF5], .ud0F00_6),
  ([0x0F, 0x00, 0x78, 0x80], .ud0F00_7),
  ([0x0F, 0x01, 0x6D, 0x85], .ud0F01_5),
  ([0x0F, 0x01, 0xFF], .ud0F01_7)] = true := by decide +kernel

theorem test_decode_data_movement_1 : decodesTo [
  ([0x06], .pushEs),
  ([0x0E], .pushCs),
  ([0x16], .pushSs),
  ([0x1E], .pushDs),
  ([0x07], .popEs),
  ([0x17], .popSs),
  ([0x1F], .popDs),
  ([0x52], .pushRw .dx),
  ([0x5B], .popRw .bx),
  ([0x68, 0x47, 0xAC], .pushDw 0xAC47),
  ([0x6A, 0x79], .pushDb 0x79),
  ([0x86, 0xD1], .xchgEbRb (.reg .cl) .dl),
  ([0x87, 0x5D, 0x85], .xchgEwRw (.mem (.idx .di (.d8 0x85))) .bx),
  ([0x88, 0x66, 0x86], .movEbRb (.mem (.idx .bp (.d8 0x86))) .ah),
  ([0x89, 0xEA], .movEwRw (.reg .dx) .bp),
  ([0x8A, 0x77, 0x87], .movRbEb .dh (.mem (.idx .bx (.d8 0x87)))),
  ([0x8B, 0xB8, 0x40, 0x90], .movRwEw .di (.mem (.idx .bxSi (.d16 0x9040)))),
  ([0x8C, 0xC3], .movEwEs (.reg .bx)),
  ([0x8C, 0x89, 0x41, 0x90], .movEwCs (.mem (.idx .bxDi (.d16 0x9041)))),
  ([0x8C, 0x92, 0x42, 0x90], .movEwSs (.mem (.idx .bpSi (.d16 0x9042)))),
  ([0x8C, 0xDC], .movEwDs (.reg .sp)),
  ([0x8D, 0x86, 0x46, 0x90], .leaRwM .ax (.mem (.idx .bp (.d16 0x9046)))),
  ([0x8E, 0xC6], .movEsEw (.reg .si)),
  ([0x8E, 0x97, 0x47, 0x90], .movSsEw (.mem (.idx .bx (.d16 0x9047))))] = true := by decide +kernel

theorem test_decode_data_movement_2 : decodesTo [
  ([0x8E, 0x18], .movDsEw (.mem (.idx .bxSi .none))),
  ([0x8F, 0x04], .popMw (.mem (.idx .si .none))),
  ([0x91], .xchgAxRw .cx),
  ([0xA0, 0x6A, 0x42], .movAlXb 0x426A),
  ([0xA1, 0xC1, 0x55], .movAxXw 0x55C1),
  ([0xA2, 0x18, 0x69], .movXbAl 0x6918),
  ([0xA3, 0x6F, 0x7C], .movXwAx 0x7C6F),
  ([0xB2, 0xB8], .movRbDb .dl 0xB8),
  ([0xBB, 0xCB, 0xC9], .movRwDw .bx 0xC9CB),
  ([0xC4, 0xA1, 0x41, 0x90], .lesRwEd .sp (.mem (.idx .bxDi (.d16 0x9041)))),
  ([0xC5, 0xAA, 0x42, 0x90], .ldsRwEd .bp (.mem (.idx .bpSi (.d16 0x9042)))),
  ([0xC6, 0xC4, 0x6D], .movEbDb (.reg .ah) 0x6D),
  ([0xC7, 0x83, 0x43, 0x90, 0x40, 0x39], .movEwDw (.mem (.idx .bpDi (.d16 0x9043))) 0x3940),
  ([0xD7], .xlatb),
  ([0xFF, 0x32], .pushMw (.mem (.idx .bpSi .none)))] = true := by decide +kernel

theorem test_decode_prefixes : decodesTo [
  ([0x26], .segEs),
  ([0x2E], .segCs),
  ([0x36], .segSs),
  ([0x3E], .segDs)] = true := by decide +kernel

theorem test_decode_flag_misc : decodesTo [
  ([0xF0], .lock),
  ([0x90], .nop),
  ([0x9B], .wait),
  ([0x9C], .pushf),
  ([0x9D], .popf),
  ([0x9E], .sahf),
  ([0x9F], .lahf),
  ([0xDD, 0x16, 0x34, 0x12], .esc 0b101010 (.mem (.direct 0x1234))),
  ([0xF4], .hlt),
  ([0xF5], .cmc),
  ([0xF8], .clc),
  ([0xF9], .stc),
  ([0xFA], .cli),
  ([0xFB], .sti),
  ([0xFC], .cld),
  ([0xFD], .std)] = true := by decide +kernel

theorem test_decode_strings_1 : decodesTo [
  ([0xF2], .repne),
  ([0xF3], .rep),
  ([0xA4], .movsb),
  ([0xA5], .movsw),
  ([0xA6], .cmpsb),
  ([0xA7], .cmpsw),
  ([0xAA], .stosb),
  ([0xAB], .stosw),
  ([0xAC], .lodsb),
  ([0xAD], .lodsw),
  ([0xAE], .scasb),
  ([0xAF], .scasw),
  ([0xF3, 0x6C], .repInsb),
  ([0xF3, 0x6D], .repInsw),
  ([0xF3, 0xA4], .repMovsb),
  ([0xF3, 0xA5], .repMovsw),
  ([0xF3, 0x6E], .repOutsb),
  ([0xF3, 0x6F], .repOutsw),
  ([0xF3, 0xAA], .repStosb),
  ([0xF3, 0xAB], .repStosw),
  ([0xF3, 0xAC], .repLodsb),
  ([0xF3, 0xAD], .repLodsw),
  ([0xF3, 0xA6], .repeCmpsb),
  ([0xF3, 0xA7], .repeCmpsw)] = true := by decide +kernel

theorem test_decode_strings_2 : decodesTo [
  ([0xF3, 0xAE], .repeScasb),
  ([0xF3, 0xAF], .repeScasw),
  ([0xF2, 0xA6], .repneCmpsb),
  ([0xF2, 0xA7], .repneCmpsw),
  ([0xF2, 0xAE], .repneScasb),
  ([0xF2, 0xAF], .repneScasw)] = true := by decide +kernel

theorem test_decode_io_extended : decodesTo [
  ([0x60], .pusha),
  ([0x61], .popa),
  ([0x62, 0x60, 0x80], .boundRwMd .sp (.mem (.idx .bxSi (.d8 0x80)))),
  ([0x6C], .insb),
  ([0x6D], .insw),
  ([0x6E], .outsb),
  ([0x6F], .outsw),
  ([0xC8, 0x97, 0x4C, 0xB2], .enterDwDb 0x4C97 0xB2),
  ([0xC9], .leave),
  ([0xE4, 0x53], .inAlDb 0x53),
  ([0xE5, 0x6A], .inAxDb 0x6A),
  ([0xE6, 0x81], .outDbAl 0x81),
  ([0xE7, 0x98], .outDbAx 0x98),
  ([0xEC], .inAlDx),
  ([0xED], .inAxDx),
  ([0xEE], .outDxAl),
  ([0xEF], .outDxAx)] = true := by decide +kernel

theorem test_decode_system : decodesTo [
  ([0x63, 0x69, 0x81], .arplEwRw (.mem (.idx .bxDi (.d8 0x81))) .bp),
  ([0x0F, 0x00, 0xC3], .sldtEw (.reg .bx)),
  ([0x0F, 0x00, 0x0C], .strEw (.mem (.idx .si .none))),
  ([0x0F, 0x00, 0x15], .lldtEw (.mem (.idx .di .none))),
  ([0x0F, 0x00, 0xDC], .ltrEw (.reg .sp)),
  ([0x0F, 0x00, 0x26, 0x34, 0x12], .verrEw (.mem (.direct 0x1234))),
  ([0x0F, 0x00, 0x2F], .verwEw (.mem (.idx .bx .none))),
  ([0x0F, 0x01, 0x41, 0x81], .sgdtM (.mem (.idx .bxDi (.d8 0x81)))),
  ([0x0F, 0x01, 0x4A, 0x82], .sidtM (.mem (.idx .bpSi (.d8 0x82)))),
  ([0x0F, 0x01, 0x53, 0x83], .lgdtM (.mem (.idx .bpDi (.d8 0x83)))),
  ([0x0F, 0x01, 0x5C, 0x84], .lidtM (.mem (.idx .si (.d8 0x84)))),
  ([0x0F, 0x01, 0xE6], .smswEw (.reg .si)),
  ([0x0F, 0x01, 0x76, 0x86], .lmswEw (.mem (.idx .bp (.d8 0x86)))),
  ([0x0F, 0x02, 0x7F, 0x87], .larRwEw .di (.mem (.idx .bx (.d8 0x87)))),
  ([0x0F, 0x03, 0x80, 0x40, 0x90], .lslRwEw .ax (.mem (.idx .bxSi (.d16 0x9040)))),
  ([0x0F, 0x06], .clts)] = true := by decide +kernel

theorem test_decode_control_1 : decodesTo [
  ([0x70, 0xA7], .joCb 0xA7),
  ([0x71, 0xBE], .jnoCb 0xBE),
  ([0x72, 0xD5], .jbCb 0xD5),
  ([0x73, 0xEC], .jaeCb 0xEC),
  ([0x74, 0x03], .jeCb 0x03),
  ([0x75, 0x1A], .jneCb 0x1A),
  ([0x76, 0x31], .jbeCb 0x31),
  ([0x77, 0x48], .jaCb 0x48),
  ([0x78, 0x5F], .jsCb 0x5F),
  ([0x79, 0x76], .jnsCb 0x76),
  ([0x7A, 0x8D], .jpCb 0x8D),
  ([0x7B, 0xA4], .jnpCb 0xA4),
  ([0x7C, 0xBB], .jlCb 0xBB),
  ([0x7D, 0xD2], .jgeCb 0xD2),
  ([0x7E, 0xE9], .jleCb 0xE9),
  ([0x7F, 0x00], .jgCb 0x00),
  ([0x9A, 0x2E, 0x22, 0xDE, 0xF0], .callCd 0x222E 0xF0DE),
  ([0xC2, 0x92, 0x12], .retNearDw 0x1292),
  ([0xC3], .retNear),
  ([0xCA, 0x45, 0x73], .retFarDw 0x7345),
  ([0xCB], .retFar),
  ([0xCC], .int3),
  ([0xCD, 0xE0], .intDb 0xE0),
  ([0xCE], .into)] = true := by decide +kernel

theorem test_decode_control_2 : decodesTo [
  ([0xCF], .iret),
  ([0xE0, 0xF7], .loopneCb 0xF7),
  ([0xE1, 0x0E], .loopeCb 0x0E),
  ([0xE2, 0x25], .loopCb 0x25),
  ([0xE3, 0x3C], .jcxzCb 0x3C),
  ([0xE8, 0xAB, 0x34], .callCw 0x34AB),
  ([0xE9, 0x02, 0x48], .jmpCw 0x4802),
  ([0xEA, 0xF8, 0xEE, 0x08, 0xF1], .jmpCd 0xEEF8 0xF108),
  ([0xEB, 0xF4], .jmpCb 0xF4),
  ([0xFF, 0xD2], .callEw (.reg .dx)),
  ([0xFF, 0x9F, 0x47, 0x90], .callEd (.mem (.idx .bx (.d16 0x9047)))),
  ([0xFF, 0x20], .jmpEw (.mem (.idx .bxSi .none))),
  ([0xFF, 0x29], .jmpMd (.mem (.idx .bxDi .none)))] = true := by decide +kernel
/-- What is no instruction: bytes that end too early, and D4, D5 with another base than 10 (93 U3). -/
theorem test_decode_refuses :
    (match decode [0xB8, 0x01] with | .error .truncated => true | _ => false) = true ∧
    (match decode [0xD4, 0x10] with | .error (.aamBase 0x10) => true | _ => false) = true ∧
    (match decode [0xD5, 0x02] with | .error (.aadBase 0x02) => true | _ => false) = true := by decide +kernel

/-! ### Data movement (40) -/

/-- R320, file 95 2.2: `8B C3`. -/
theorem test_mov : (after (real [0x8B, 0xC3] [(.bx, 0x1234)])).reg .ax = 0x1234 := by decide +kernel
/-- R321: `C7 06 34 12 78 56` stores the low byte first. -/
theorem test_mov_immediate : let t := after (real [0xC7, 0x06, 0x34, 0x12, 0x78, 0x56])
  (readCell t.mem 0x1234, readCell t.mem 0x1235, t.ip) = (0x78, 0x56, 0x0506) := by decide +kernel
/-- R322: `B4 09` keeps AL. -/
theorem test_mov_ah : (after (real [0xB4, 0x09] [(.ax, 0x1234)])).reg .ax = 0x0934 := by decide +kernel
/-- 30 R273: a form with BP reads through SS; `8B 46 FE` with BP = 1000H. -/
theorem test_mov_bp : (after { real [0x8B, 0x46, 0xFE] [(.bp, 0x1000)] (put 0x10FFE [0xEF, 0xBE] []) with
    ss := realSeg 0x1000 }).reg .ax = 0xBEEF := by decide +kernel
/-- 30 R275: `2E 8B 46 00` reads through CS. -/
theorem test_mov_override : (after { real [0x2E, 0x8B, 0x46, 0x00] [(.bp, 0x1000)] (put 0x1000 [0xEF, 0xBE] []) with
    ss := realSeg 0x1000 }).reg .ax = 0xBEEF := by decide +kernel
/-- R323: `A1 34 12`. -/
theorem test_mov_direct : (after (real [0xA1, 0x34, 0x12] [] (put 0x1234 [0xEF, 0xBE] []))).reg .ax = 0xBEEF := by
  decide +kernel
/-- R324: `8C D8`. -/
theorem test_mov_from_ds : (after { real [0x8C, 0xD8] with ds := realSeg 0x40 }).reg .ax = 0x40 := by decide +kernel
/-- R325, file 95 1.2: `8E D8`. -/
theorem test_mov_ds : let t := after (real [0x8E, 0xD8] [(.ax, 0x1234)])
  (t.ds.sel, t.ds.base) = (0x1234, 0x012340) := by decide +kernel
/-- 21 R192, file 95 2.9: MOV DS,AX of 0023H at CPL 3 sets the Accessed bit. -/
theorem test_mov_ds_protected : let t := after { user [0x8E, 0xD8] [(.ax, 0x0023)] with ds := Seg.nulled (cache 0 0 0 0) 0 }
  (t.ds.sel, t.ds.base, t.ds.access, t.ds.valid, readCell t.mem 0x825) = (0x0023, 0x040000, 0xF3, true, 0xF3) := by
  decide +kernel
/-- 21 R192: 0013H, DPL 0, at CPL 3 is #GP(0010H); the handler runs on the stack of level 0. -/
theorem test_mov_ds_privilege : let t := after (user [0x8E, 0xD8] [(.ax, 0x0013)])
  (t.cs.sel, t.ip, t.ss.sel, t.reg .sp, word t 0x207F4) = (0x0008, 0x03D0, 0x0010, 0x07F4, 0x0010) := by decide +kernel
/-- 21 R191: MOV SS,AX of a segment with P = 0 is #SS(0060H). -/
theorem test_mov_ss_not_present : let t := after { kern [0x8E, 0xD0] [(.ax, 0x0060)] with
    mem := writeCell (kern [0x8E, 0xD0]).mem 0x865 0x12 }
  (t.ip, word t 0x200F8, t.ss.sel) = (0x03C0, 0x0060, 0x0010) := by decide +kernel
/-- R330, file 95 2.2: `50`, and `54`, which pushes SP as it was. -/
theorem test_push : let t := after (real [0x50] [(.ax, 0x1234)])
  (readCell t.mem 0xFE, readCell t.mem 0xFF, t.reg .sp) = (0x34, 0x12, 0xFE) := by decide +kernel
theorem test_push_sp : word (after (real [0x54])) 0xFE = 0x0100 := by decide +kernel
/-- R330, 92 D20: PUSH at SP = 0001H is interrupt 13 with SP left at FFFFH. -/
theorem test_push_wrap : let t := after (real [0x50] [(.sp, 1)] (put 0x34 [0x00, 0x07, 0x00, 0x00] []))
  (t.ip, t.reg .sp, word t 0xFFF9) = (0x0700, 0xFFF9, 0x0500) := by decide +kernel
/-- R331: `6A FF` and `68 34 12`. -/
theorem test_push_immediate :
    (word (after (real [0x6A, 0xFF])) 0xFE, word (after (real [0x68, 0x34, 0x12])) 0xFE) = (0xFFFF, 0x1234) := by
  decide +kernel
/-- R334: `5B`; `5C`, the model's choice of log 26. -/
theorem test_pop : let t := after (real [0x5B] [(.sp, 0xFE)] (put 0xFE [0xEF, 0xBE] []))
  (t.reg .bx, t.reg .sp) = (0xBEEF, 0x0100) := by decide +kernel
theorem test_pop_sp : (after (real [0x5C] [(.sp, 0xFE)] (put 0xFE [0x00, 0x02] []))).reg .sp = 0x0200 := by
  decide +kernel
/-- R334, 60 R806: POP AX at SP = FFFFH shuts down. -/
theorem test_pop_shutdown : (after (real [0x58] [(.sp, 0xFFFF)])).run = .shutdown := by decide +kernel
/-- R334, 10 R72: `17` loads SS and inhibits interrupts. -/
theorem test_pop_ss : let t := after (real [0x17] [(.sp, 0xFE)] (put 0xFE [0x00, 0x20] []))
  (t.ss.sel, t.ss.base, t.reg .sp, t.intInhibit) = (0x2000, 0x020000, 0x0100, .ss) := by decide +kernel
/-- R335: `8F 06 00 03`. -/
theorem test_pop_memory : word (after (real [0x8F, 0x06, 0x00, 0x03] [(.sp, 0xFE)] (put 0xFE [0xEF, 0xBE] []))) 0x300
  = 0xBEEF := by decide +kernel
/-- R340: `87 06 10 00`; R341: `93`. -/
theorem test_xchg_memory : let t := after (real [0x87, 0x06, 0x10, 0x00] [(.ax, 0x1111)] (put 0x10 [0x22, 0x22] []))
  (t.reg .ax, word t 0x10) = (0x2222, 0x1111) := by decide +kernel
/-- R340: `2E 87 07` of a word that may not be written is #GP(0) with the register unchanged. -/
theorem test_xchg_fault : let t := after (kern [0x2E, 0x87, 0x07] [(.ax, 0x1111)])
  (t.ip, t.reg .ax) = (0x03D0, 0x1111) := by decide +kernel
theorem test_xchg_ax : let t := after (real [0x93] [(.ax, 0x1111), (.bx, 0x2222)])
  (t.reg .ax, t.reg .bx) = (0x2222, 0x1111) := by decide +kernel
/-- R345, file 95 2.2: the offset of `D7` wraps. -/
theorem test_xlat : (after (real [0xD7] [(.bx, 0xFFFF), (.ax, 0x02)] (put 1 [0x41] []))).reg .ax = 0x41 := by
  decide +kernel
/-- R350: `8D 40 05`. -/
theorem test_lea : (after (real [0x8D, 0x40, 0x05] [(.bx, 0x1000), (.si, 0x20)])).reg .ax = 0x1025 := by decide +kernel
/-- R352: `C4 3E 00 03`, offset first; `C5 36 FE FF` is interrupt 13 (90 C40). -/
theorem test_les : let t := after (real [0xC4, 0x3E, 0x00, 0x03] [] (put 0x300 [0x10, 0x00, 0x00, 0x20] []))
  (t.reg .di, t.es.sel) = (0x0010, 0x2000) := by decide +kernel
theorem test_lds_limit : (after (real [0xC5, 0x36, 0xFE, 0xFF] [] (put 0x34 [0x00, 0x07, 0x00, 0x00] []))).ip = 0x0700 := by
  decide +kernel

/-! ### Arithmetic (41) -/

/-- R381: `04 01` on 7FH; `83 C3 FE`, the immediate sign-extended. -/
theorem test_add : let t := after (real [0x04, 0x01] [(.ax, 0x7F)])
  (t.reg .ax, six t) = (0x80, 0, 0, 1, 0, 1, 1) := by decide +kernel
theorem test_add_extended : let t := after (real [0x83, 0xC3, 0xFE] [(.bx, 1)])
  (t.reg .bx, six t) = (0xFFFF, 0, 1, 0, 0, 1, 0) := by decide +kernel
/-- R382, file 95 1.2: `13 D9`; 7FFFH + 7FFFH + 1. -/
theorem test_adc : let t := after (withFlags 0x0003 (real [0x13, 0xD9] [(.bx, 0xFFFF)]))
  (t.reg .bx, six t) = (0, 1, 1, 1, 1, 0, 0) := by decide +kernel
theorem test_adc_overflow : let t := after (withFlags 0x0003 (real [0x15, 0xFF, 0x7F] [(.ax, 0x7FFF)]))
  (t.reg .ax, six t) = (0xFFFF, 0, 1, 1, 0, 1, 1) := by decide +kernel
/-- R383: `29 06 00 02`; 0000H - 8000H. -/
theorem test_sub : let t := after (real [0x29, 0x06, 0x00, 0x02] [(.ax, 1)] (put 0x200 [0x00, 0x80] []))
  (word t 0x200, six t) = (0x7FFF, 0, 1, 1, 0, 0, 1) := by decide +kernel
theorem test_sub_overflow : let t := after (real [0x2D, 0x00, 0x80])
  (t.reg .ax, six t) = (0x8000, 1, 1, 0, 0, 1, 1) := by decide +kernel
/-- R384: `80 DB 20`; `1C FF` with CF = 1 on 0. -/
theorem test_sbb : let t := after (withFlags 0x0003 (real [0x80, 0xDB, 0x20] [(.bx, 0x20)]))
  (t.reg .bx, six t) = (0xFF, 1, 1, 1, 0, 1, 0) := by decide +kernel
theorem test_sbb_borrow : let t := after (withFlags 0x0003 (real [0x1C, 0xFF]))
  (t.reg .ax, six t) = (0, 1, 1, 1, 1, 0, 0) := by decide +kernel
/-- R385: `83 FB 20` on 001FH and on 0020H. -/
theorem test_cmp : let t := after (real [0x83, 0xFB, 0x20] [(.bx, 0x1F)])
  (t.reg .bx, six t) = (0x1F, 1, 1, 0, 0, 1, 0) := by decide +kernel
theorem test_cmp_equal : six (after (real [0x83, 0xFB, 0x20] [(.bx, 0x20)])) = (0, 1, 0, 1, 0, 0) := by decide +kernel
/-- R386: `40` on FFFFH keeps CF; `FE C0` on 7FH. -/
theorem test_inc : let t := after (real [0x40] [(.ax, 0xFFFF)])
  (t.reg .ax, six t) = (0, 0, 1, 1, 1, 0, 0) := by decide +kernel
theorem test_inc_overflow : let t := after (real [0xFE, 0xC0] [(.ax, 0x7F)])
  (t.reg .ax, t.flags.of) = (0x80, true) := by decide +kernel
/-- R387: `4B` on 0 keeps CF; on 8000H it overflows. -/
theorem test_dec : let t := after (withFlags 0x0003 (real [0x4B]))
  (t.reg .bx, six t) = (0xFFFF, 1, 1, 1, 0, 1, 0) := by decide +kernel
theorem test_dec_overflow : let t := after (real [0x4B] [(.bx, 0x8000)])
  (t.reg .bx, t.flags.of) = (0x7FFF, true) := by decide +kernel
/-- R388: `F7 D8` on 1 and on 8000H. -/
theorem test_neg : let t := after (real [0xF7, 0xD8] [(.ax, 1)])
  (t.reg .ax, six t) = (0xFFFF, 1, 1, 1, 0, 1, 0) := by decide +kernel
theorem test_neg_overflow : let t := after (real [0xF7, 0xD8] [(.ax, 0x8000)])
  (t.reg .ax, t.flags.of, t.flags.cf) = (0x8000, true, true) := by decide +kernel
/-- R390: `F7 E3`: FFFFH * FFFFH; `F7 E0` on 3. -/
theorem test_mul : let t := after (real [0xF7, 0xE3] [(.ax, 0xFFFF), (.bx, 0xFFFF)])
  (t.reg .dx, t.reg .ax, t.flags.cf, t.flags.of) = (0xFFFE, 1, true, true) := by decide +kernel
theorem test_mul_small : let t := after (real [0xF7, 0xE0] [(.ax, 3)])
  (t.reg .dx, t.reg .ax, t.flags.cf, t.flags.of) = (0, 9, false, false) := by decide +kernel
/-- R391: `F6 EB`: 40H * 2 does not fit a byte; `F7 EB`: -16384 * 2 fits a word. -/
theorem test_imul : let t := after (real [0xF6, 0xEB] [(.ax, 0x40), (.bx, 2)])
  (t.reg .ax, t.flags.cf, t.flags.of) = (0x80, true, true) := by decide +kernel
theorem test_imul_fits : let t := after (real [0xF7, 0xEB] [(.ax, 0xC000), (.bx, 2)])
  (t.reg .dx, t.reg .ax, t.flags.cf, t.flags.of) = (0xFFFF, 0x8000, false, false) := by decide +kernel
/-- R392: `69 DE 04 00` on 4000H; `6B C0 0A` on 0CCCH. -/
theorem test_imul_immediate : let t := after (real [0x69, 0xDE, 0x04, 0x00] [(.si, 0x4000)])
  (t.reg .bx, t.flags.cf, t.flags.of) = (0, true, true) := by decide +kernel
theorem test_imul_byte : let t := after (real [0x6B, 0xC0, 0x0A] [(.ax, 0x0CCC)])
  (t.reg .ax, t.flags.cf, t.flags.of) = (0x7FF8, false, false) := by decide +kernel
/-- R393: `F7 F3`; `F6 F3` with a quotient of 100H is interrupt 0 at the DIV (file 95 2.12). -/
theorem test_div : let t := after (real [0xF7, 0xF3] [(.dx, 1), (.bx, 3)])
  (t.reg .ax, t.reg .dx) = (0x5555, 1) := by decide +kernel
theorem test_div_overflow : let t := after (real [0xF6, 0xF3] [(.ax, 0x0200), (.bx, 2)] (put 0 [0x00, 0x07, 0x00, 0x00] []))
  (t.ip, t.reg .ax, word t 0xFA) = (0x0700, 0x0200, 0x0500) := by decide +kernel
/-- R394: `F6 FB`: -7 / 2; 128 / -1 = -128 is legal. -/
theorem test_idiv : (after (real [0xF6, 0xFB] [(.ax, 0xFFF9), (.bx, 2)])).reg .ax = 0xFFFD := by decide +kernel
theorem test_idiv_least : (after (real [0xF6, 0xFB] [(.ax, 0x80), (.bx, 0xFF)])).reg .ax = 0x0080 := by decide +kernel
/-- R396, R397: `98` on 80H; `99` on 8000H. -/
theorem test_cbw : (after (real [0x98] [(.ax, 0x0080)])).reg .ax = 0xFF80 := by decide +kernel
theorem test_cwd : (after (real [0x99] [(.ax, 0x8000)])).reg .dx = 0xFFFF := by decide +kernel
/-- R400: `27` on 3CH and on 9AH. -/
theorem test_daa : let t := after (real [0x27] [(.ax, 0x3C)])
  (t.reg .ax, t.flags.af, t.flags.cf) = (0x42, true, false) := by decide +kernel
theorem test_daa_both : let t := after (real [0x27] [(.ax, 0x9A)])
  (t.reg .ax, t.flags.af, t.flags.cf, t.flags.zf) = (0, true, true, true) := by decide +kernel
/-- R401: `2F` on 2DH with AF = 1. -/
theorem test_das : let t := after (withFlags 0x0012 (real [0x2F] [(.ax, 0x2D)]))
  (t.reg .ax, t.flags.af, t.flags.cf) = (0x27, true, false) := by decide +kernel
/-- R402, R403: `37` on 000EH; `3F` on 02FFH with AF = 1. -/
theorem test_aaa : let t := after (real [0x37] [(.ax, 0x000E)])
  (t.reg .ax, t.flags.af, t.flags.cf) = (0x0104, true, true) := by decide +kernel
theorem test_aas : let t := after (withFlags 0x0012 (real [0x3F] [(.ax, 0x02FF)]))
  (t.reg .ax, t.flags.af, t.flags.cf) = (0x0109, true, true) := by decide +kernel
/-- R404, R405: `D4 0A` on 3FH; `D5 0A` on FFFFH. -/
theorem test_aam : (after (real [0xD4, 0x0A] [(.ax, 0x3F)])).reg .ax = 0x0603 := by decide +kernel
theorem test_aad : let t := after (real [0xD5, 0x0A] [(.ax, 0xFFFF)])
  (t.reg .ax, t.flags.sf) = (0x00F5, true) := by decide +kernel

/-! ### Logic, shifts, rotates (42) -/

/-- R441: `21 1E 00 02`. -/
theorem test_and : let t := after (real [0x21, 0x1E, 0x00, 0x02] [(.bx, 0x0F0F)] (put 0x200 [0xF5, 0xF0] []))
  (word t 0x200, t.flags.pf, t.flags.zf, t.flags.sf) = (0x0005, true, false, false) := by decide +kernel
/-- R442: `0C 05`; R443: `33 C0`; R444: `A8 80`; R445: `F7 D0`. -/
theorem test_or : let t := after (withFlags 0x0803 (real [0x0C, 0x05] [(.ax, 0x30)]))
  (t.reg .ax, t.flags.pf, t.flags.cf, t.flags.of) = (0x35, true, false, false) := by decide +kernel
theorem test_xor : let t := after (real [0x33, 0xC0] [(.ax, 0x1234)])
  (t.reg .ax, t.flags.zf, t.flags.pf, t.flags.sf) = (0, true, true, false) := by decide +kernel
theorem test_test : let t := after (real [0xA8, 0x80] [(.ax, 0x80)])
  (t.reg .ax, t.flags.zf, t.flags.sf, t.flags.pf) = (0x80, false, true, false) := by decide +kernel
theorem test_not : let t := after (withFlags 0x08D7 (real [0xF7, 0xD0] [(.ax, 0x00FF)]))
  (t.reg .ax, t.flags.toWord) = (0xFF00, 0x08D7) := by decide +kernel
/-- R450: `D0 C0` on 81H; a count of 33 is a count of 1. -/
theorem test_rol : let t := after (real [0xD0, 0xC0] [(.ax, 0x81)])
  (t.reg .ax, t.flags.cf, t.flags.of) = (0x03, true, true) := by decide +kernel
theorem test_rol_33 : let t := after (real [0xD2, 0xC0] [(.ax, 0x80), (.cx, 0x21)])
  (t.reg .ax, t.flags.cf, t.flags.of) = (0x01, true, true) := by decide +kernel
/-- R451: `D3 0E 00 02` by 4; `D0 C8` on 01H. -/
theorem test_ror : let t := after (real [0xD3, 0x0E, 0x00, 0x02] [(.cx, 4)] (put 0x200 [0x34, 0x12] []))
  (word t 0x200, t.flags.cf) = (0x4123, false) := by decide +kernel
theorem test_ror_one : let t := after (real [0xD0, 0xC8] [(.ax, 0x01)])
  (t.reg .ax, t.flags.cf, t.flags.of) = (0x80, true, true) := by decide +kernel
/-- R452: `D1 D3` on 8000H with CF = 1; a word by 17 is a full turn. -/
theorem test_rcl : let t := after (withFlags 0x0003 (real [0xD1, 0xD3] [(.bx, 0x8000)]))
  (t.reg .bx, t.flags.cf, t.flags.of) = (0x0001, true, true) := by decide +kernel
theorem test_rcl_17 : let t := after (real [0xC1, 0xD3, 0x11] [(.bx, 0x0001)])
  (t.reg .bx, t.flags.cf) = (0x0001, false) := by decide +kernel
/-- R453: `C0 1E 00 02 03`; `D0 D8` on 00H with CF = 1. -/
theorem test_rcr : let t := after (withFlags 0x0003 (real [0xC0, 0x1E, 0x00, 0x02, 0x03] [] (put 0x200 [0x04] [])))
  (readCell t.mem 0x200, t.flags.cf) = (0x20, true) := by decide +kernel
theorem test_rcr_one : let t := after (withFlags 0x0003 (real [0xD0, 0xD8]))
  (t.reg .ax, t.flags.cf, t.flags.of) = (0x80, false, true) := by decide +kernel
/-- R454: `D0 E0` on C0H; `C0 E3 09` on 01H. -/
theorem test_sal : let t := after (real [0xD0, 0xE0] [(.ax, 0xC0)])
  (t.reg .ax, t.flags.cf, t.flags.of, t.flags.sf) = (0x80, true, false, true) := by decide +kernel
theorem test_sal_9 : let t := after (real [0xC0, 0xE3, 0x09] [(.bx, 0x01)])
  (t.reg .bx, t.flags.cf, t.flags.zf, t.flags.pf) = (0, false, true, true) := by decide +kernel
/-- R455: `D0 E8` on 81H; R449: a count of 32 is none and keeps every flag. -/
theorem test_shr : let t := after (real [0xD0, 0xE8] [(.ax, 0x81)])
  (t.reg .ax, t.flags.cf, t.flags.of, t.flags.sf) = (0x40, true, true, false) := by decide +kernel
theorem test_shr_32 : let t := after (withFlags 0x08D7 (real [0xC1, 0xE8, 0x20] [(.ax, 0x1234)]))
  (t.reg .ax, t.flags.toWord) = (0x1234, 0x08D7) := by decide +kernel
/-- R456: `D1 3E 00 02` on -7; `C0 F8 08` on 7FH. -/
theorem test_sar : let t := after (real [0xD1, 0x3E, 0x00, 0x02] [] (put 0x200 [0xF9, 0xFF] []))
  (word t 0x200, t.flags.cf, t.flags.of, t.flags.sf, t.flags.pf) = (0xFFFC, true, false, true, true) := by decide +kernel
theorem test_sar_8 : let t := after (real [0xC0, 0xF8, 0x08] [(.ax, 0x7F)])
  (t.reg .ax, t.flags.cf, t.flags.zf) = (0, false, true) := by decide +kernel

/-- R449, 60 R812: `2E D2 17`, RCL of a byte that may not be written: with a count of 0 CF is as it was. -/
theorem test_rcl_fault_count_0 : let t := after (withFlags 0x0003 (kern [0x2E, 0xD2, 0x17]))
  (t.ip, word t 0x200FE) = (0x03D0, 0x0003) := by decide +kernel

/-! ### Strings (43) -/

/-- R482, R481: `A5` upward, and downward. -/
theorem test_movs : let t := after (real [0xA5] [(.si, 0x100), (.di, 0x200)] (put 0x100 [0x34, 0x12] []))
  (word t 0x200, t.reg .si, t.reg .di) = (0x1234, 0x102, 0x202) := by decide +kernel
theorem test_movs_down : let t := after (withFlags 0x0402 (real [0xA5] [(.si, 0x100), (.di, 0x200)]))
  (t.reg .si, t.reg .di) = (0xFE, 0x1FE) := by decide +kernel
/-- R483: `A6` compares 05H with 07H. -/
theorem test_cmps : let t := after (real [0xA6] [(.si, 0x100), (.di, 0x200)] (put 0x200 [0x07] (put 0x100 [0x05] [])))
  (six t, t.reg .si, t.reg .di) = ((1, 0, 1, 0, 1, 0), 0x101, 0x201) := by decide +kernel
/-- R484: `AE`; an override does not change ES. -/
theorem test_scas : let t := after { real [0x2E, 0xAE] [(.ax, 0x41), (.di, 0x200)] (put 0x10200 [0x41] []) with
    es := realSeg 0x1000 }
  (t.flags.zf, t.flags.cf, t.reg .di) = (true, false, 0x201) := by decide +kernel
/-- R485: `AD` with DF = 1. -/
theorem test_lods : let t := after (withFlags 0x0402 (real [0xAD] [(.si, 0x10)] (put 0x10 [0xEF, 0xBE] [])))
  (t.reg .ax, t.reg .si) = (0xBEEF, 0x0E) := by decide +kernel
/-- R486: `AB`. -/
theorem test_stos : let t := after (real [0xAB] [(.ax, 0), (.di, 0x300)])
  (word t 0x300, t.reg .di) = (0, 0x302) := by decide +kernel
/-- R494: `F3 A4` with CX = 0 moves nothing. -/
theorem test_rep_zero : let t := after (real [0xF3, 0xA4] [(.si, 0x100), (.di, 0x200)] (put 0x100 [0x34] []))
  (t.ip, t.reg .si, t.reg .di, readCell t.mem 0x200) = (0x502, 0x100, 0x200, 0xFF) := by decide +kernel
/-- R494, R495: one iteration of `F3 A5` with CX = 2 leaves IP at the prefix. -/
theorem test_rep_iteration : let t := after (real [0xF3, 0xA5] [(.cx, 2), (.si, 0x100), (.di, 0x200)])
  (t.ip, t.reg .cx, t.reg .si, t.reg .di) = (0x500, 1, 0x102, 0x202) := by decide +kernel
/-- R494: `F3 AE` stops on a difference, `F2 AE` on a match. -/
theorem test_repe_scas : let t := after (real [0xF3, 0xAE] [(.cx, 3), (.di, 0x200)] (put 0x200 [0x07] []))
  (t.ip, t.reg .cx, t.flags.zf, t.flags.cf) = (0x502, 2, false, true) := by decide +kernel
theorem test_repne_scas : let t := after (real [0xF2, 0xAE] [(.cx, 3), (.ax, 7), (.di, 0x200)] (put 0x200 [0x07] []))
  (t.ip, t.reg .cx, t.flags.zf) = (0x502, 2, true) := by decide +kernel
/-- 30 R262, file 95 2.5: `F3 26 A4` and `26 F3 A4` are both REP MOVSB with the source in ES. -/
theorem test_rep_order :
    let f := fun c => after { real c [(.cx, 1), (.di, 0x200)] (put 0x10000 [0x77] []) with es := realSeg 0x1000 }
    (readCell (f [0xF3, 0x26, 0xA4]).mem 0x10200, readCell (f [0x26, 0xF3, 0xA4]).mem 0x10200) = (0x77, 0x77) ∧
    ((f [0xF3, 0x26, 0xA4]).ip, (f [0x26, 0xF3, 0xA4]).ip) = (0x503, 0x503) := by decide +kernel

/-! ### Control transfers (44) -/

/-- R520: `74 05`, taken and not; `7E 05` when SF differs from OF. -/
theorem test_je : ((after (withFlags 0x0042 (real [0x74, 0x05]))).ip, (after (real [0x74, 0x05])).ip) = (0x507, 0x502) := by
  decide +kernel
theorem test_jle : ((after (withFlags 0x0082 (real [0x7E, 0x05]))).ip, (after (withFlags 0x0882 (real [0x7E, 0x05]))).ip)
  = (0x507, 0x502) := by decide +kernel
/-- R522-R525: `E3 10`; `E2 FC` with CX = 1 and 0; `E1 F0` with ZF = 0; `E0 F0`. -/
theorem test_jcxz : (after (real [0xE3, 0x10])).ip = 0x512 := by decide +kernel
theorem test_loop : let f := fun c => after (real [0xE2, 0xFC] [(.cx, c)])
  ((f 1).ip, (f 1).reg .cx, (f 0).ip, (f 0).reg .cx) = (0x502, 0, 0x4FE, 0xFFFF) := by decide +kernel
theorem test_loope : let t := after (real [0xE1, 0xF0] [(.cx, 5)])
  (t.ip, t.reg .cx) = (0x502, 4) := by decide +kernel
theorem test_loopne : (after (real [0xE0, 0xF0] [(.cx, 5)])).ip = 0x4F2 := by decide +kernel
/-- R510-R514: `EB FE`; `E9 FD 0F`; `FF E3`; `FF 2E 00 03`; file 95 2.6: `EA F0 FF 00 F0`. -/
theorem test_jmp : ((after (real [0xEB, 0xFE])).ip, (after (real [0xE9, 0xFD, 0x0F])).ip,
    (after (real [0xFF, 0xE3] [(.bx, 0x2000)])).ip) = (0x500, 0x1500, 0x2000) := by decide +kernel
theorem test_jmp_far : let t := after (real [0xEA, 0xF0, 0xFF, 0x00, 0xF0])
  (t.cs.sel, t.cs.base, t.ip) = (0xF000, 0x0F0000, 0xFFF0) := by decide +kernel
theorem test_jmp_indirect : let t := after (real [0xFF, 0x2E, 0x00, 0x03] [] (put 0x300 [0x10, 0x00, 0x00, 0x30] []))
  (t.cs.sel, t.ip) = (0x3000, 0x0010) := by decide +kernel
/-- R530, R531: `E8 10 00`; `FF D3`. -/
theorem test_call : let t := after (real [0xE8, 0x10, 0x00])
  (word t 0xFE, t.reg .sp, t.ip) = (0x503, 0xFE, 0x513) := by decide +kernel
theorem test_call_register : let t := after (real [0xFF, 0xD3] [(.bx, 0x3000)])
  (word t 0xFE, t.ip) = (0x502, 0x3000) := by decide +kernel
/-- R532: `9A 00 02 00 20`. -/
theorem test_call_far : let t := after (real [0x9A, 0x00, 0x02, 0x00, 0x20])
  (word t 0xFE, word t 0xFC, t.cs.base, t.ip, t.reg .sp) = (0x0000, 0x0505, 0x020000, 0x0200, 0xFC) := by decide +kernel
/-- R540: `C2 04 00`; R542: `CA 02 00`. -/
theorem test_ret : let t := after (real [0xC2, 0x04, 0x00] [(.sp, 0xFE)] (put 0xFE [0x03, 0x02] []))
  (t.ip, t.reg .sp) = (0x0203, 0x0104) := by decide +kernel
theorem test_ret_far : let t := after (real [0xCA, 0x02, 0x00] [(.sp, 0xFC)] (put 0xFC [0x05, 0x01, 0x00, 0x10] []))
  (t.ip, t.cs.sel, t.reg .sp) = (0x0105, 0x1000, 0x0102) := by decide +kernel
/-- R551, 60 R783, R785: `CD 21`. -/
theorem test_int : let t := after (withFlags 0x0202 (real [0xCD, 0x21] [] (put 0x84 [0x00, 0x06, 0x00, 0x00] [])))
  (word t 0xFE, word t 0xFC, word t 0xFA, t.reg .sp, t.flags.toWord, t.ip) = (0x0202, 0, 0x0502, 0xFA, 0x0002, 0x0600) := by
  decide +kernel
/-- R550, R552: `CC` and `CE`. -/
theorem test_int3 : (after (real [0xCC] [] (put 0x0C [0x00, 0x06, 0x00, 0x00] []))).ip = 0x0600 := by decide +kernel
theorem test_into : ((after (real [0xCE])).ip,
    (after (withFlags 0x0802 (real [0xCE] [] (put 0x10 [0x00, 0x06, 0x00, 0x00] [])))).ip) = (0x501, 0x600) := by
  decide +kernel
/-- R555: `CF`. -/
theorem test_iret : let t := after (real [0xCF] [(.sp, 0xFA)] (put 0xFA [0x02, 0x05, 0x00, 0x00, 0x02, 0x02] []))
  (t.ip, t.cs.sel, t.flags.toWord, t.reg .sp) = (0x0502, 0, 0x0202, 0x0100) := by decide +kernel

/-! ### Flags, processor control (45) -/

/-- R570-R574. -/
theorem test_flag_bits : let f := fun b w => (after (withFlags w (real [b]))).flags.toWord
  (f 0xF8 0x0203, f 0xF9 0x0202, f 0xF5 0x0203, f 0xFC 0x0402, f 0xFD 0x0002) = (0x0202, 0x0203, 0x0202, 0x0002, 0x0402) := by
  decide +kernel
/-- R575, R576: `FA`; `FB` inhibits INTR. -/
theorem test_cli_sti : ((after (withFlags 0x0202 (real [0xFA]))).flags.ief, (after (real [0xFB])).flags.ief,
    (after (real [0xFB])).intInhibit) = (false, true, .sti) := by decide +kernel
/-- R578, R579: `9E` with AH = D7H; `9F`. -/
theorem test_sahf : (after (real [0x9E] [(.ax, 0xD700)])).flags.toWord = 0x00D7 := by decide +kernel
theorem test_lahf : (after (withFlags 0x0087 (real [0x9F]))).reg .ax = 0x8700 := by decide +kernel
/-- R580, R581: `9C`; `9D` of FFFFH in Real Address Mode, of 3202H at CPL 3 and at CPL 0. -/
theorem test_pushf : word (after (withFlags 0x0246 (real [0x9C]))) 0xFE = 0x0246 := by decide +kernel
theorem test_popf : (after (real [0x9D] [(.sp, 0xFE)] (put 0xFE [0xFF, 0xFF] []))).flags.toWord = 0x0FD7 ∧
    (after (user [0x9D] [] (block 0x40100 [0x02, 0x32]))).flags.toWord = 0x0002 ∧
    (after (kern [0x9D] [] (block 0x20100 [0x02, 0x32]))).flags.toWord = 0x3202 := by decide +kernel
/-- R590, R591: `90`; `F4`, which at CPL 3 is #GP(0). -/
theorem test_nop : let t := after (real [0x90])
  (t.ip, t.regs, t.flags.toWord) = (0x501, (real []).regs, 0x0002) := by decide +kernel
theorem test_hlt : let t := after (real [0xF4])
  (t.run, t.ip, (after (user [0xF4])).ip, word (after (user [0xF4])) 0x207F6) = (.halted, 0x501, 0x03D0, 0x0100) := by
  decide +kernel
/-- R592: LOCK at CPL 3 with IOPL 0 is #GP(0); in Real Address Mode it changes nothing. -/
theorem test_lock : ((after (user [0xF0, 0x40])).ip, (after (real [0xF0, 0x40])).reg .ax) = (0x03D0, 1) := by decide +kernel
/-- R594: `9B` with MP and TS is interrupt 7; with BUSY it waits. -/
theorem test_wait : let s := real [0x9B] [] (put 0x1C [0x00, 0x07, 0x00, 0x00] [])
  ((after { s with msw := { s.msw with mp := true, ts := true } }).ip, (after s).ip,
    (after { s with env := { s.env with ext := { s.env.ext with busyFor := 1 } } }).ip) = (0x700, 0x501, 0x500) := by
  decide +kernel
/-- R596: `D9 06 00 02` with EM is interrupt 7, saved at the ESC; without, an extension is handed the instruction with
its operand address. -/
theorem test_esc : let s := real [0xD9, 0x06, 0x00, 0x02] [] (put 0x1C [0x00, 0x07, 0x00, 0x00] [])
  let t := after { s with msw := { s.msw with em := true } }
  let u := after { s with env := { s.env with ext := { s.env.ext with present := true } } }
  (t.ip, word t 0xFA, (after s).ip, u.ioLog) =
    (0x700, 0x500, 0x504, [.escape ⟨0b001000, .mem (.direct 0x200), 0, 0x500, some ⟨0, 0x200, 0x200⟩⟩]) := by decide +kernel

/-- An extension with `n` requests for an operand left at `off`, whose FNINIT is `DB E3`, and NMI and INTR at its side. -/
def withOperand (n off : Nat) (s : State) : State :=
  { s with
    env := { s.env with ext := { s.env.ext with present := true, pereq := n, fninit := [(0b011100, .reg .bx)] } }
    extOp := some { seg := realSeg 0, off := off, op := 0b001000 } }

/-- R598: words still requested for the operand of the last ESC are tested there, not at the operand of the next, which
does not begin after an overrun. -/
theorem test_esc_outstanding :
    let s := withOperand 2 0xFFFF (real [])
    let t := match exec (.esc 0b001000 (.mem (.direct 0x0300))) s with
      | .next t => t
      | _ => s
    (t.peOverrun, t.env.ext.pereq, t.extOp, t.waiting, t.ip) = (true, 0, none, .esc, 0x0500) := by decide +kernel
/-- R598, 60 R810: an overrun found at the boundary is interrupt 9 there; then WAIT waits, and so does an ESC, inside
which no NMI is taken, but FNINIT goes on and ends that. -/
theorem test_overrun :
    let v := put 0x24 [0x00, 0x07, 0x00, 0x00] []
    let f := fun c => after (withOperand 1 0xFFFF (real [0x90] [] (put 0x700 c v)))
    let w := f [0x9B]
    let e := f [0xD9, 0x06, 0x00, 0x02]
    let n := f [0xDB, 0xE3]
    (w.ip, w.waiting, word w 0xFA, w.env.ext.held) = (0x700, .wait, 0x500, true) ∧
    (e.ip, e.waiting, (after { e with nmiPending := true }).ip, (after { e with nmiPending := true }).nmiPending) =
      (0x700, .esc, 0x700, true) ∧
    (n.ip, n.waiting, n.env.ext.held, n.ioLog) = (0x702, .none, false, [.escape ⟨0b011100, .reg .bx, 0, 0x700, none⟩]) := by decide +kernel

/-! ### I/O and the extended instructions (46) -/

/-- R611: `EC` asks port 03F8H for one byte. -/
theorem test_in : let t := after (real [0xEC] [(.dx, 0x3F8)])
  (t.ioLog, t.ip) = ([.readByte 0x3F8], 0x501) := by decide +kernel
/-- R612: `E6 20`; `EF` to an even port and to an odd one. -/
theorem test_out : ((after (real [0xE6, 0x20] [(.ax, 0x20)])).ioLog,
    (after (real [0xEF] [(.ax, 0x1234), (.dx, 0x300)])).ioLog, (after (real [0xEF] [(.ax, 0x1234), (.dx, 0x301)])).ioLog) =
  ([.writeByte 0x20 0x20], [.writeWord 0x300 0x1234], [.writeByte 0x302 0x12, .writeByte 0x301 0x34]) := by decide +kernel
/-- R610: at CPL 3 with IOPL 2 `EC` is #GP(0); at IOPL 3 it is not. -/
theorem test_io_privilege : ((after (withFlags 0x2002 (user [0xEC]))).ip, (after (withFlags 0x3002 (user [0xEC]))).ip)
  = (0x03D0, 0x0101) := by decide +kernel
/-- R614: `6C` reads port DX and advances DI. -/
theorem test_ins : let t := after (real [0x6C] [(.dx, 0x60), (.di, 0x10)])
  (t.ioLog, t.reg .di) = ([.readByte 0x60], 0x11) := by decide +kernel
/-- R615: `6F` with DF = 1. -/
theorem test_outs : let t := after (withFlags 0x0402 (real [0x6F] [(.dx, 0x300), (.si, 0x20)] (put 0x20 [0x34, 0x12] [])))
  (t.ioLog, t.reg .si) = ([.writeWord 0x300 0x1234], 0x1E) := by decide +kernel
/-- R620: `60`. -/
theorem test_pusha : let t := after (real [0x60] [(.ax, 1), (.cx, 2), (.dx, 3), (.bx, 4), (.bp, 5), (.si, 6), (.di, 7)])
  ((List.range 8).map fun k => word t (0xFE - 2 * k)) = [1, 2, 3, 4, 0x100, 5, 6, 7] ∧ t.reg .sp = 0xF0 := by decide +kernel
/-- R621: `61` skips the SP image. -/
theorem test_popa : let t := after (real [0x61] [(.sp, 0xF0)] (put 0xF0 (bytesOf [7, 6, 5, 0x9999, 4, 3, 2, 1]) []))
  t.regs = { ax := 1, cx := 2, dx := 3, bx := 4, sp := 0x100, bp := 5, si := 6, di := 7 } := by decide +kernel
/-- R622: `62 1E 00 02` with bounds 0 and 9: 9 and -1. -/
theorem test_bound : let f := fun v => after (real [0x62, 0x1E, 0x00, 0x02] [(.bx, v)]
    (put 0x200 (bytesOf [0, 9]) (put 0x14 [0x00, 0x07, 0x00, 0x00] [])))
  ((f 9).ip, (f 0xFFFF).ip, word (f 0xFFFF) 0xFA) = (0x504, 0x700, 0x500) := by decide +kernel
/-- R624: `C8 04 00 02`; file 95 1.3: `C8 00 08 03`. -/
theorem test_enter : let t := after (real [0xC8, 0x04, 0x00, 0x02] [(.bp, 0x200)] (put 0x1FE [0x00, 0x03] []))
  (word t 0xFE, word t 0xFC, word t 0xFA, t.reg .bp, t.reg .sp) = (0x200, 0x300, 0xFE, 0xFE, 0xF6) := by decide +kernel
theorem test_enter_3 : let t := after (real [0xC8, 0x00, 0x08, 0x03] [(.sp, 0x1000), (.bp, 0x2000)]
    (put 0x1FFC (bytesOf [0xBBBB, 0xAAAA]) []))
  (word t 0xFFC, word t 0xFFA, word t 0xFF8, t.reg .bp, t.reg .sp) = (0xAAAA, 0xBBBB, 0xFFE, 0xFFE, 0x7F8) := by decide +kernel
/-- R625: `C9`. -/
theorem test_leave : let t := after (real [0xC9] [(.sp, 0xF2), (.bp, 0xFE)] (put 0xFE [0x00, 0x02] []))
  (t.reg .bp, t.reg .sp) = (0x200, 0x100) := by decide +kernel

/-! ### Protected Mode control transfers (47): the examples of the rules -/

/-- R641: `EA 00 02 08 00`, and with an offset beyond the limit #GP(0). -/
theorem test_jmp_protected : let t := after (kern [0xEA, 0x00, 0x02, 0x08, 0x00])
  (t.cs, t.ip, readCell t.mem 0x80D) = (cache 0x0008 0x010000 0x0FFF 0x9B, 0x0200, 0x9B) := by decide +kernel
theorem test_jmp_limit : let t := after (kern [0xEA, 0x00, 0x10, 0x08, 0x00])
  (t.ip, word t 0x200FA, word t 0x200F8) = (0x03D0, 0x0100, 0) := by decide +kernel
/-- R642, R652: JMP and CALL through the gate 004BH at CPL 3 stay there. -/
theorem test_jmp_gate : let t := after (user [0xEA, 0x00, 0x00, 0x4B, 0x00])
  (t.cs.sel, t.ip, t.cpl) = (0x001B, 0x0040, 3) := by decide +kernel
theorem test_call_gate : let t := after (user [0x9A, 0x00, 0x00, 0x4B, 0x00])
  (t.cs.sel, t.ip, word t 0x400FE, word t 0x400FC, t.reg .sp) = (0x001B, 0x0040, 0x001B, 0x0105, 0x00FC) := by decide +kernel
/-- R653: CALL through the gate 002BH to level 0 with two parameters. -/
theorem test_call_inner : let t := after (user [0x9A, 0x00, 0x00, 0x2B, 0x00] [] (block 0x40100 [0x11, 0x11, 0x22, 0x22]))
  ((List.range 6).map fun k => word t (0x207FE - 2 * k)) = [0x0023, 0x0100, 0x2222, 0x1111, 0x001B, 0x0105] ∧
  (t.ss.sel, t.reg .sp, t.cs.sel, t.ip, t.cpl) = (0x0010, 0x07F4, 0x0008, 0x0200, 0) := by decide +kernel
/-- R660: `CB` at CPL 0. -/
theorem test_ret_protected : let t := after (kern [0xCB] [(.sp, 0xFC)] (block 0x200FC (bytesOf [0x0105, 0x0008])))
  (t.cs.sel, t.ip, t.reg .sp) = (0x0008, 0x0105, 0x0100) := by decide +kernel
/-- R661, R199: `CA 04 00` to level 3 nulls a DS of level 0 and keeps an ES of level 3. -/
theorem test_ret_outer : let t := after { kern [0xCA, 0x04, 0x00] [(.sp, 0x7F4)]
      (block 0x207F4 (bytesOf [0x0105, 0x001B, 0x1111, 0x2222, 0x0100, 0x0023])) with
    es := cache 0x0023 0x040000 0x7FFF 0xF3 }
  (t.cs.sel, t.ip, t.ss.sel, t.reg .sp, t.cpl) = (0x001B, 0x0105, 0x0023, 0x0104, 3) ∧
  (t.ds.sel, t.ds.valid, t.es.sel, t.es.valid) = (0, false, 0x0023, true) := by decide +kernel
/-- R665: #GP(0028H) at IP = 0100H through an interrupt gate: a load of DS with a selector that names a call gate. -/
theorem test_fault_protected : let t := after (withFlags 0x0202 (kern [0x8E, 0xD8] [(.ax, 0x0028)]))
  ((List.range 4).map fun k => word t (0x200FE - 2 * k)) = [0x0202, 0x0008, 0x0100, 0x0028] ∧
  (t.reg .sp, t.ip, t.flags.toWord) = (0x00F8, 0x03D0, 0x0002) := by decide +kernel
/-- R666: INT 3 at CPL 3 through a trap gate to level 0: IF is kept. -/
theorem test_int_inner : let t := after (withFlags 0x0202 (user [0xCC]))
  ((List.range 5).map fun k => word t (0x207FE - 2 * k)) = [0x0023, 0x0100, 0x0202, 0x001B, 0x0101] ∧
  (t.ss.sel, t.reg .sp, t.cs.sel, t.ip, t.cpl, t.flags.toWord) = (0x0010, 0x07F6, 0x0008, 0x0330, 0, 0x0202) := by
  decide +kernel
/-- R665, 60 R782: INT 13 at CPL 3 through a gate of DPL 0 is #GP(13 * 8 + 2). -/
theorem test_int_gate_dpl : let t := after (user [0xCD, 0x0D])
  (t.ip, word t 0x207F6, word t 0x207F4) = (0x03D0, 0x0100, 0x006A) := by decide +kernel
/-- R670: `CF` at the same level. -/
theorem test_iret_protected : let t := after (kern [0xCF] [(.sp, 0xFA)] (block 0x200FA (bytesOf [0x0150, 0x0008, 0x0202])))
  (t.ip, t.cs.sel, t.flags.toWord, t.reg .sp) = (0x0150, 0x0008, 0x0202, 0x0100) := by decide +kernel
/-- R671: `CF` to level 3. -/
theorem test_iret_outer : let t := after (kern [0xCF] [(.sp, 0x7F6)]
    (block 0x207F6 (bytesOf [0x0105, 0x001B, 0x0202, 0x0100, 0x0023])))
  (t.cs.sel, t.ip, t.ss.sel, t.reg .sp, t.cpl, t.flags.toWord) = (0x001B, 0x0105, 0x0023, 0x0100, 3, 0x0202) := by
  decide +kernel
/-- R694: `EA 00 00 30 00`, the rule's example. -/
theorem test_task_switch : let t := after (kern [0xEA, 0x00, 0x00, 0x30, 0x00] [(.ax, 0x1234)])
  (word t 0x210E, word t 0x2112, readCell t.mem 0x845, readCell t.mem 0x835) = (0x0105, 0x1234, 0x81, 0x83) ∧
  (t.tr.sel, t.tr.base, t.reg .ax, t.flags.toWord, t.msw.ts) = (0x0030, 0x002000, 0, 0x0202, true) ∧
  (t.cs.sel, t.ip, t.ss.sel, t.reg .sp, t.ds.valid, t.es.valid, t.ldtr.valid) =
    (0x0008, 0, 0x0010, 0x0400, false, false, false) := by decide +kernel
/-- R655, R692: CALL to the TSS nests: NT is set and the back link names the old TSS, which stays busy. -/
theorem test_task_call : let t := after (kern [0x9A, 0x00, 0x00, 0x30, 0x00])
  (t.flags.nt, word t 0x2000, readCell t.mem 0x845, readCell t.mem 0x835) = (true, 0x0040, 0x83, 0x83) := by decide +kernel
/-- R672: `CF` with NT = 1 goes back: IRET in the task called. -/
theorem test_iret_task : let t := after (withFlags 0x4002 { kern [0xCF] with
    mem := put 0x2100 (bytesOf [0x0030]) (put 0x835 [0x83] (kern [0xCF]).mem) })
  (t.tr.sel, t.ip, t.flags.nt, readCell t.mem 0x845, word t 0x2110) = (0x0030, 0, false, 0x81, 0x0002) := by decide +kernel
/-- R672, 21 R161: a null back link is #TS(0), and nothing is fetched for it. -/
theorem test_iret_null_link : let t := after (withFlags 0x4002 (kern [0xCF]))
  (t.ip, word t 0x200F8, word t 0x200FA, t.tr.sel) = (0x03A0, 0, 0x0100, 0x0040) := by decide +kernel
/-- R643, R667: a JMP through the task gate 0050H. -/
theorem test_task_gate : (after (kern [0xEA, 0x00, 0x00, 0x50, 0x00])).tr.sel = 0x0030 := by decide +kernel
/-- 21 R161, 47 R643, R667: a null TSS selector in a task gate is #GP(0), though GDT entry 0 holds an available TSS; by JMP
and by INT 17, whose delivery carries EXT = 0. -/
theorem test_task_gate_null :
    let f := fun c => let s := kern c
      after { s with mem := put 0x800 (descBytes 0x002B 0x002000 0x81) (put 0x852 [0] (put 0x108A [0] s.mem)) }
    let j := f [0xEA, 0x00, 0x00, 0x50, 0x00]
    let i := f [0xCD, 0x11]
    (j.ip, word j 0x200F8, j.tr.sel) = (0x03D0, 0, 0x0040) ∧ (i.ip, word i 0x200F8, i.tr.sel) = (0x03D0, 0, 0x0040) := by
  decide +kernel

/-! ### System instructions (48) -/

/-- R722, R723: `0F 01 06 00 20`; the sixth byte is left open, so its address is made read-only here. -/
theorem test_sgdt : let t := after { real [0x0F, 0x01, 0x06, 0x00, 0x20] with
    gdtr := { base := 0x012340, limit := 0x0FFF }, env := { Env.default with rom := [(0x2005, 1)] } }
  ((List.range 5).map fun k => readCell t.mem (0x2000 + k)) = [0xFF, 0x0F, 0x40, 0x23, 0x01] := by decide +kernel
theorem test_sidt : let t := after { real [0x0F, 0x01, 0x0E, 0x00, 0x20] with
    env := { Env.default with rom := [(0x2005, 1)] } }
  ((List.range 5).map fun k => readCell t.mem (0x2000 + k)) = [0xFF, 0x03, 0, 0, 0] := by decide +kernel
/-- R724, R725: `0F 01 16 00 20`, `0F 01 1E 00 20`. -/
theorem test_lgdt : (after (real [0x0F, 0x01, 0x16, 0x00, 0x20] [] (put 0x2000 [0xFF, 0x0F, 0x40, 0x23, 0x01, 0xAA] []))).gdtr
  = { base := 0x012340, limit := 0x0FFF } := by decide +kernel
theorem test_lidt : (after (real [0x0F, 0x01, 0x1E, 0x00, 0x20] [] (put 0x2000 [7, 0, 0, 0, 0, 0] []))).idtr
  = { base := 0, limit := 7 } := by decide +kernel
/-- R726, R727: `0F 01 E0` after RESET; `0F 01 F0` sets PE and cannot clear it. -/
theorem test_smsw : (after (real [0x0F, 0x01, 0xE0])).reg .ax = 0xFFF0 := by decide +kernel
theorem test_lmsw : ((after (real [0x0F, 0x01, 0xF0] [(.ax, 1)])).msw.toWord,
    (after (kern [0x0F, 0x01, 0xF0] [(.ax, 0x000A)])).msw.toWord) = (0xFFF1, 0xFFFB) := by decide +kernel
/-- R728: `0F 06`; at CPL 3 it is #GP(0). -/
theorem test_clts : let f := fun (s : State) => after { s with msw := { s.msw with ts := true, mp := true } }
  ((f (kern [0x0F, 0x06])).msw.toWord, (f (user [0x0F, 0x06])).ip) = (0xFFF3, 0x03D0) := by decide +kernel
/-- R730, R731: `0F 00 C0`, `0F 00 C8`. -/
theorem test_sldt_str : ((after { kern [0x0F, 0x00, 0xC0] with ldtr := ⟨0x38, 0x3000, 0x27, true⟩ }).reg .ax,
    (after (kern [0x0F, 0x00, 0xC8])).reg .ax) = (0x0038, 0x0040) := by decide +kernel
/-- R732: `0F 00 D0` of 0038H and of 0000H. -/
theorem test_lldt : ((after (kern [0x0F, 0x00, 0xD0] [(.ax, 0x38)])).ldtr, (after (kern [0x0F, 0x00, 0xD0])).ldtr.valid)
  = (⟨0x38, 0x3000, 0x27, true⟩, false) := by decide +kernel
/-- R733: `0F 00 D8` of 0030H marks it busy; of 0040H, which is busy, it is #GP(0040H). -/
theorem test_ltr : let t := after (kern [0x0F, 0x00, 0xD8] [(.ax, 0x30)])
  (t.tr, readCell t.mem 0x835, t.msw.ts) = (⟨0x30, 0x2000, 0x2B, true⟩, 0x83, false) := by decide +kernel
theorem test_ltr_busy : word (after (kern [0x0F, 0x00, 0xD8] [(.ax, 0x40)])) 0x200F8 = 0x0040 := by decide +kernel
/-- R734, R735: `0F 00 E0`, `0F 00 E8` at CPL 3: 0013H is not visible; 0023H is, and becomes accessed. -/
theorem test_verr : ((after (user [0x0F, 0x00, 0xE0] [(.ax, 0x13)])).flags.zf,
    (after (user [0x0F, 0x00, 0xE0] [(.ax, 0x23)])).flags.zf,
    readCell (after (user [0x0F, 0x00, 0xE0] [(.ax, 0x23)])).mem 0x825) = (false, true, 0xF3) := by decide +kernel
theorem test_verw : ((after (user [0x0F, 0x00, 0xE8] [(.ax, 0x23)])).flags.zf,
    (after (user [0x0F, 0x00, 0xE8] [(.ax, 0x1B)])).flags.zf) = (true, false) := by decide +kernel
/-- R736, R737: `0F 02 C3`, `0F 03 C3` of 0023H; LSL of a call gate. -/
theorem test_lar : let f := fun v => after (user [0x0F, 0x02, 0xC3] [(.bx, v), (.ax, 0x5555)])
  ((f 0x23).reg .ax, (f 0x23).flags.zf, (f 0x13).reg .ax, (f 0x13).flags.zf) = (0xF200, true, 0x5555, false) := by
  decide +kernel
/-- R736, 93 U16: LAR returns the access byte of a TSS, an LDT and a gate; an empty type (00H) and illegal ones (08H, 0FH)
give ZF = 0. -/
theorem test_lar_types :
    let f := fun a : Byte => after { user [0x0F, 0x02, 0xC3] [(.bx, 0x33), (.ax, 0x5555)] with
      mem := put 0x835 [a] (user [0x0F, 0x02, 0xC3]).mem }
    ([0xE1, 0xE2, 0xE7, 0xE0, 0xE8, 0xEF, 0xF0].map fun a => ((f a).reg .ax, (f a).flags.zf)) =
      [(0xE100, true), (0xE200, true), (0xE700, true), (0x5555, false), (0x5555, false), (0x5555, false),
        (0xF000, true)] := by decide +kernel
theorem test_lsl : let f := fun v => after (user [0x0F, 0x03, 0xC3] [(.bx, v)])
  ((f 0x23).reg .ax, (f 0x23).flags.zf, (f 0x2B).flags.zf) = (0x7FFF, true, false) := by decide +kernel
/-- R740: `63 C3`. -/
theorem test_arpl : let f := fun b a => after (user [0x63, 0xC3] [(.bx, b), (.ax, a)])
  ((f 0x10 3).reg .bx, (f 0x10 3).flags.zf, (f 0x13 1).reg .bx, (f 0x13 1).flags.zf) = (0x13, true, 0x13, false) := by
  decide +kernel

/-! ### Invalid encodings, checks, events (20, 30, 60, 70) -/

/-- 30 R287, R288: #UD of `0F 05`, `D6`, `8E C8`, `0F 01 D0`, and of ARPL in Real Address Mode. -/
theorem test_ud : let f := fun c => (after (real c [] (put 0x18 [0x00, 0x07, 0x00, 0x00] []))).ip
  (f [0x0F, 0x05], f [0xD6], f [0x8E, 0xC8], f [0x0F, 0x01, 0xD0], f [0x63, 0xC3]) = (0x700, 0x700, 0x700, 0x700, 0x700) := by
  decide +kernel
/-- 30 R288: `8F C8` and `FF F8` are interrupt 13. -/
theorem test_gp_rows : let f := fun c => (after (real c [] (put 0x34 [0x00, 0x07, 0x00, 0x00] []))).ip
  (f [0x8F, 0xC8], f [0xFF, 0xF8]) = (0x700, 0x700) := by decide +kernel
/-- 30 R263: eleven bytes are #UD at the first prefix; ten are not. -/
theorem test_length : let f := fun n => after (real (List.replicate n 0x26 ++ [0x8B, 0x07]) [] (put 0x18 [0x00, 0x07, 0x00, 0x00] []))
  ((f 9).ip, word (f 9) 0xFA, (f 8).ip) = (0x700, 0x500, 0x50A) := by decide +kernel
/-- 30 R290 steps 6 and 8 come before the refusal of `D4 05`: eleven bytes are #UD, LOCK at CPL 3 with IOPL 0 is #GP(0). -/
theorem test_refused_after_checks :
    (after (real (List.replicate 9 0x26 ++ [0xD4, 0x05]) [] (put 0x18 [0x00, 0x07, 0x00, 0x00] []))).ip = 0x700 ∧
    (after (user [0xF0, 0xD4, 0x05])).ip = 0x03D0 ∧ step (real [0x26, 0xD4, 0x05]) = .refused (.aamBase 0x05) :=
  ⟨by decide +kernel, by decide +kernel, rfl⟩
/-- 20 R114: after NOP at FFFFH nothing is fetched at 0000H; the next step is interrupt 13, saved at IP = 0. -/
theorem test_no_wrap : let t := after { real [] [] (put 0xFFFF [0x90] (put 0x34 [0x00, 0x07, 0x00, 0x00] [])) with ip := 0xFFFF }
  (t.ip, t.pastEnd, (after t).ip, word (after t) 0xFA) = (0, true, 0x700, 0) := by decide +kernel
/-- 44 R510: a jump at the top of the segment that goes on at 0000H is a transfer, and no instruction runs past the end. -/
theorem test_jump_wraps : let t := after { real [] [] (put 0xFFFE [0xEB, 0x00] []) with ip := 0xFFFE }
  (t.ip, t.pastEnd) = (0, false) := by decide +kernel
/-- 20 R111, R112, file 95 1.5: an expand-down segment with limit 0FFFH: 0FFFH faults, 1000H does not. -/
theorem test_expand_down : let f := fun o => (after { kern [0x8A, 0x07] [(.bx, o)] with
    ds := cache 0x0010 0x020000 0x0FFF 0x97 }).ip
  (f 0x0FFF, f 0x1000) = (0x03D0, 0x0102) := by decide +kernel
/-- 20 R113, R115, file 95 2.9: a write through CS is #GP(0); beyond the limit of SS it is #SS(0). -/
theorem test_rights : ((after (kern [0x2E, 0x88, 0x07])).ip, (after (kern [0x88, 0x46, 0x00] [(.bp, 0x1000)])).ip)
  = (0x03D0, 0x03C0) := by decide +kernel
/-- 20 R104, file 95 1.9: FFFF:0010 under the A20 mask and without it. -/
theorem test_a20 : let s := { real [] with ds := realSeg 0xFFFF }
  (s.cell (s.linear .ds 0x10), { s with env := { s.env with a20Mask := false } }.cell (s.linear .ds 0x10))
    = (0, 0x100000) := by decide +kernel
/-- 60 R801: TF set, `40`: interrupt 1 after it, with TF in the saved FLAGS. -/
theorem test_single_step : let t := after (withFlags 0x0102 (real [0x40] [] (put 0x04 [0x00, 0x07, 0x00, 0x00] [])))
  (t.ip, word t 0xFA, word t 0xFE, t.flags.tf, t.reg .ax) = (0x700, 0x501, 0x0102, false, 1) := by decide +kernel
/-- 45 R581, 60 R801: POPF that sets TF is not trapped itself. -/
theorem test_popf_tf : (after (real [0x9D] [(.sp, 0xFE)] (put 0xFE [0x02, 0x01] []))).ip = 0x501 := by decide +kernel
/-- 60 R790-R793: NMI comes before INTR, whose handler waits while IF is clear; one step delivers it and runs the first
instruction of the handler. -/
theorem test_nmi : let s := withFlags 0x0202 (real [] [] (put 0x700 [0x90] (put 0x08 [0x00, 0x07, 0x00, 0x00] [])))
  let t := after { s with nmiPending := true, env := { s.env with intr := [0x20] } }
  (t.ip, word t 0xFA, t.nmiMasked, t.nmiPending, t.env.intr) = (0x701, 0x500, true, false, [0x20]) := by decide +kernel
/-- 60 R792, R796: INTR ends a halt; the saved IP is the next instruction. -/
theorem test_intr_halt : let s := withFlags 0x0202 (real [] [] (put 0x700 [0x90] (put 0x80 [0x00, 0x07, 0x00, 0x00] [])))
  let t := after { s with run := .halted, env := { s.env with intr := [0x20] } }
  (t.ip, word t 0xFA, t.run, t.ioLog) = (0x701, 0x500, .running, [.intAck 0x20]) := by decide +kernel
/-- 10 R72, 60 R795: after a load of SS an INTR waits for one instruction. -/
theorem test_inhibit : let s := withFlags 0x0202 (real [0x90])
  (after { s with intInhibit := .ss, nmiPending := true, env := { s.env with intr := [0x20] } }).ip = 0x501 := by
  decide +kernel
/-- 60 R782, R809: a vector outside the table is interrupt 8; when that is outside too, shutdown. -/
theorem test_table_limit : let s := real [0xCD, 0x21] [] (put 0x20 [0x00, 0x07, 0x00, 0x00] [])
  let t := after { s with idtr := { base := 0, limit := 0x23 } }
  (t.ip, word t 0xFA, (after { s with idtr := { base := 0, limit := 0x22 } }).run) = (0x700, 0x500, .shutdown) := by
  decide +kernel
/-- 60 R809, R806: #GP whose gate is not usable is #DF; when vector 8 is not usable either, shutdown. -/
theorem test_double_fault : let s := kern [0x8E, 0xD8] [(.ax, 0x0028)]
  ((after { s with mem := put 0x106D [0] s.mem }).ip,
    (after { s with mem := put 0x1045 [0] (put 0x106D [0] s.mem) }).run) = (0x0380, .shutdown) := by decide +kernel
/-- 70 R870, R871: RESET from any state; then the first instruction. -/
theorem test_reset_pin : let s := kern [0x90]
  let t := after { s with env := { s.env with reset := true } }
  (t.run, t.msw.toWord, t.cs.sel, t.ip, t.flags.toWord) = (.reset, 0xFFF0, 0xF000, 0xFFF0, 0x0002) := by decide +kernel
/-- 70 R872: the first instruction after RESET is at FFFFF0H; here it is INC AX. -/
theorem test_first_fetch : (after { State.reset with env := { Env.default with a20Mask := false }, mem := [(0xFFFFF0, 0x40)] }).reg .ax
  = 1 := by decide +kernel
/-- The host's two questions, on `04 01`. -/
theorem test_table_word : decodeTableWord 16 0x0104 = some (.addAlDb 1) ∧
    (after (State.reset.withFetchWord 16 0x0104)).reg .ax = 1 := by decide +kernel

/-! ### Witnesses: states and operands that meet the hypotheses of the statements -/

/-- The answer of an operation, if it has one. -/
def answer {ε α : Type} (c : Except ε α) : Option α :=
  match c with
  | .ok a => some a
  | .error _ => none

theorem of_answer {ε α : Type} {c : Except ε α} {a : α} (h : answer c = some a) : c = .ok a := by
  cases c with
  | ok b => exact congrArg Except.ok (Option.some.inj h)
  | error e => exact absurd h (by simp [answer])

theorem answers {ε α : Type} {c : Except ε α} (h : (answer c).isSome = true) : ∃ a, c = .ok a := by
  cases c with
  | ok a => exact ⟨a, rfl⟩
  | error e => exact absurd h (by simp [answer])

/-- The outcome is a next state. -/
def goesOn (o : Out) : Bool :=
  match o with
  | .next _ => true
  | .fault _ => false
  | .refused _ => false

theorem of_goesOn {o : Out} (h : goesOn o = true) : ∃ t, o = .next t := by
  cases o with
  | next t => exact ⟨t, rfl⟩
  | fault f => exact absurd h (by simp [goesOn])
  | refused r => exact absurd h (by simp [goesOn])

/-- Memory is canonical, a byte operand at `o` and a word operand at `p` may be read and written. -/
def OperandsReady (s : State) (o p : Word) : Prop :=
  Canonical s ∧ ∀ write, s.checkEb (.mem (.direct o)) write = .ok () ∧ s.checkEw (.mem (.direct p)) write = .ok ()

theorem real_ready : OperandsReady (real []) 0xFFFF 0xFFFE :=
  ⟨by unfold Canonical; decide +kernel, fun write => by cases write <;> exact ⟨of_passes (by decide +kernel), of_passes (by decide +kernel)⟩⟩

theorem user_ready : OperandsReady (user []) 0x7FFF 0x7FFE :=
  ⟨by unfold Canonical; decide +kernel, fun write => by cases write <;> exact ⟨of_passes (by decide +kernel), of_passes (by decide +kernel)⟩⟩

theorem kern_canonical : Canonical (kern []) := by unfold Canonical; decide +kernel

theorem witness_AddAdcComplete : OperandsReady (user []) 0x7FFF 0x7FFE := user_ready
theorem witness_SubSbbComplete : OperandsReady (user []) 0x7FFF 0x7FFE := user_ready
theorem witness_CompareCompletes : OperandsReady (user []) 0x7FFF 0x7FFE := user_ready
theorem witness_IncDecNegComplete : OperandsReady (user []) 0x7FFF 0x7FFE := user_ready
theorem witness_LogicCompletes : OperandsReady (user []) 0x7FFF 0x7FFE := user_ready
theorem witness_TestNotComplete : OperandsReady (user []) 0x7FFF 0x7FFE := user_ready
theorem witness_MovForms : OperandsReady (real []) 0xFFFF 0xFFFE := real_ready
theorem witness_ExchangeForms : OperandsReady (real []) 0xFFFF 0xFFFE := real_ready
theorem witness_MultiplyForms : OperandsReady (user []) 0x7FFF 0x7FFE := user_ready
theorem witness_ShiftRotateForms : OperandsReady (user []) 0x7FFF 0x7FFE := user_ready

/-- SP = 0 for a push, SP = FFFEH for a pop, the last word of the segment as memory operand. -/
theorem witness_PushPopForms : Canonical (real []) ∧ (real [] [(.sp, 0)]).checkPush = .ok () ∧
    (real [] [(.sp, 0xFFFE)]).checkPop = .ok () ∧ (real []).checkMem (.direct 0xFFFE) 2 false = .ok () ∧
    (real []).checkMem (.direct 0xFFFE) 2 true = .ok () := by
  refine ⟨real_ready.1, of_passes ?_, of_passes ?_, of_passes ?_, of_passes ?_⟩ <;> decide +kernel

/-- In Protected Mode: a data selector of the level for SS, one for DS, a null one for ES; the popped word and the far
pointer name 0023H at the last places they can. -/
theorem witness_SegmentLoads :
    let s := user [] [(.ax, 0x0023), (.sp, 0x7FFE)] (block 0x047FFE [0x23, 0x00])
    Canonical s ∧ s.checkEw (.reg .ax) false = .ok () ∧ s.checkSreg .ss (s.getEw (.reg .ax)) = .ok () ∧
    s.checkSreg .ds (s.getEw (.reg .ax)) = .ok () ∧ s.checkSreg .es (s.getEw (.reg .bx)) = .ok () ∧
    selNull (s.getEw (.reg .bx)) = true ∧ selNull (s.getEw (.reg .ax)) = false ∧ s.checkPop = .ok () ∧
    s.checkSreg .ss (s.stackWord 0) = .ok () ∧ s.checkSreg .ds (s.stackWord 0) = .ok () ∧
    s.checkMem (.direct 0x7FFC) 4 false = .ok () ∧ s.checkSreg .ds (s.memWord (.mem (.direct 0x7FFC)) 2) = .ok () ∧
    s.checkSreg .es (s.memWord (.mem (.direct 0x7FFC)) 2) = .ok () ∧ s.msw.pe = true := by
  intro s
  refine ⟨by unfold Canonical; decide +kernel, of_passes ?_, of_passes ?_, of_passes ?_, of_passes ?_, ?_, ?_,
    of_passes ?_, of_passes ?_, of_passes ?_, of_passes ?_, of_passes ?_, of_passes ?_, ?_⟩ <;> decide +kernel

/-- In Real Address Mode every selector passes. -/
theorem witness_SegmentLoads_real : let s := real [] [(.sp, 0xFFFE)]
    Canonical s ∧ s.msw.pe = false ∧ s.checkSreg .ss (s.getEw (.reg .ax)) = .ok () ∧ s.checkPop = .ok () ∧
    s.checkMem (.direct 0xFFFC) 4 false = .ok () := by
  intro s
  refine ⟨real_ready.1, ?_, of_passes ?_, of_passes ?_, of_passes ?_⟩ <;> decide +kernel

theorem witness_SelectorTests : (real []).msw.pe = false ∧ (user []).msw.pe = true ∧ (SReg.ds = .ds ∨ SReg.ds = .es) :=
  ⟨rfl, rfl, .inl rfl⟩

/-- XLATB at the last byte of the segment. -/
theorem witness_LeaXlatCbwCwd : let s := real [] [(.bx, 0xFF00), (.ax, 0xFF)]
    Canonical s ∧ s.check (s.segOr .ds) (s.reg .bx + zext16 (s.reg8 .al)) 1 false = .ok () := by
  intro s
  exact ⟨real_ready.1, of_passes (by decide +kernel)⟩

/-- Quotients at the ends of their ranges: FFH and 100H; -128 and 128; FFFFH and 10000H; -32768 and 32768; divisor 0. -/
theorem witness_DivideForms :
    let s := real [] [(.ax, 0x00FF), (.bx, 1)]
    let m := real [] [(.ax, 0xFF80), (.bx, 1)]
    let w := real [] [(.dx, 1), (.bx, 2), (.ax, 0xFFFF)]
    let n := real [] [(.dx, 0xFFFF), (.ax, 0x8000), (.bx, 1)]
    s.checkEb (.reg .bl) false = .ok () ∧ s.checkEw (.reg .bx) false = .ok () ∧ (s.getEb (.reg .bl)).toNat ≠ 0 ∧
    (s.reg .ax).toNat / (s.getEb (.reg .bl)).toNat = 2 ^ 8 - 1 ∧
    (s.setReg .ax 0x100).reg .ax = 0x100 ∧ ((s.setReg .ax 0x100).reg .ax).toNat / (s.getEb (.reg .bl)).toNat = 2 ^ 8 ∧
    FitsSigned 8 ((m.reg .ax).toInt.tdiv (m.getEb (.reg .bl)).toInt) ∧
    ¬FitsSigned 8 (((m.setReg .ax 0x80).reg .ax).toInt.tdiv (m.getEb (.reg .bl)).toInt) ∧
    (w.reg .dx ++ w.reg .ax).toNat / (w.getEw (.reg .bx)).toNat = 2 ^ 16 - 1 ∧
    2 ^ 16 ≤ ((w.setReg .dx 2).reg .dx ++ (w.setReg .dx 2).reg .ax).toNat / (w.getEw (.reg .bx)).toNat ∧
    FitsSigned 16 ((n.reg .dx ++ n.reg .ax).toInt.tdiv (n.getEw (.reg .bx)).toInt) ∧
    ¬FitsSigned 16 (((n.setReg .dx 0).reg .dx ++ (n.setReg .dx 0).reg .ax).toInt.tdiv (n.getEw (.reg .bx)).toInt) ∧
    (s.getEb (.reg .cl)).toNat = 0 ∧ (s.getEw (.reg .cx)).toNat = 0 := by
  unfold FitsSigned
  exact ⟨rfl, rfl, by decide +kernel⟩

/-- Both sides of each test of DAA and DAS: low digits 9 and 10, 9FH and A0H. -/
theorem witness_DecimalAdjustPacked :
    let a := fun v : Word => ((real [] [(.ax, v)]).reg8 .al).toNat
    let f := (real []).flags
    (¬(9 < a 0x09 % 16 ∨ f.af = true)) ∧ (9 < a 0x0A % 16 ∨ f.af = true) ∧ ¬(0x9F < a 0x9F ∨ f.cf = true) ∧
    (0x9F < a 0xA0 ∨ f.cf = true) := by decide +kernel

/-- Both sides of the test of AAA and AAS. -/
theorem witness_DecimalAdjustUnpacked :
    let a := fun v : Word => ((real [] [(.ax, v)]).reg8 .al).toNat
    let f := (real []).flags
    (¬(9 < a 0x09 % 16 ∨ f.af = true)) ∧ (9 < a 0x0A % 16 ∨ f.af = true) := by decide +kernel

theorem witness_ShiftStepsAddUp : 0 < 1 ∧ 0 < 1 := by decide

/-- Every primitive at the last element of its segments: SI = DI = FFFEH. -/
theorem witness_StringPrimitives (op : StrOp) (wide : Bool) : let s := real [] [(.si, 0xFFFE), (.di, 0xFFFE)]
    Canonical s ∧ s.cur.rep = none ∧ StrReady s op wide := by
  refine ⟨real_ready.1, rfl, ⟨fun _ => rfl, fun _ => ?_, fun _ => ?_⟩⟩ <;>
    (cases op <;> cases wide <;> exact of_passes (by decide +kernel))

/-- With CX = 1 and with CX = 0, for the three ways to repeat. -/
theorem witness_RepeatedStrings : let s := real [] [(.si, 0xFFFE), (.di, 0xFFFE), (.cx, 1)]
    let p := { s with cur := { s.cur with rep := some .repne } }
    Canonical s ∧ s.reg .cx ≠ 0 ∧ StrReady s .cmps true ∧ Repeats s .cmps true .repeCmpsw .repe ∧
    Repeats s .cmps true .repneCmpsw .repne ∧ Repeats s .scas false .repneScasb .repne ∧
    Repeats p .movs true .movsw .repne ∧ (real []).reg .cx = 0 ∧ (real []).untrusted = false := by
  intro s p
  exact ⟨real_ready.1, by decide +kernel,
    ⟨fun _ => rfl, fun _ => of_passes (by decide +kernel), fun _ => of_passes (by decide +kernel)⟩, .f3, .f2Cmps rfl,
    .f2Scas rfl, .apart _ rfl, rfl, rfl⟩

/-- Offsets at the limit of the code segment and beyond it; flags that satisfy and that fail every condition; CX for
LOOP at 1 and 2. -/
theorem witness_JumpsAndLoops : InCode (kern []) 0x0FFF ∧ ¬InCode (kern []) 0x1000 ∧ InCode (real []) 0xFFFF ∧
    ((withFlags 0x0FD7 (real [])).flags.of = true ∧ (real []).flags.of = false) ∧
    ((withFlags 0x0082 (real [])).flags.sf ≠ (withFlags 0x0082 (real [])).flags.of) ∧
    ((real []).reg .cx = 0 ∧ (real [] [(.cx, 1)]).reg .cx - 1 = 0 ∧ (real [] [(.cx, 2)]).reg .cx - 1 ≠ 0) := by
  unfold InCode; decide +kernel

theorem witness_ConditionsAfterCompare : 0 < 1 := by decide

/-- Room for one word at SP = 0 and none at SP = 1; a return offset inside the limit and outside it. -/
theorem witness_NearTransfers :
    Canonical (real []) ∧ (real []).checkEw (.mem (.direct 0xFFFE)) false = .ok () ∧
    (real [] [(.sp, 0)]).stackRoom 1 = true ∧ (real [] [(.sp, 1)]).stackRoom 1 = false ∧
    (kern [] [(.sp, 0x1002)]).stackRoom 1 = false ∧
    InCode (kern []) 0x0FFF ∧ ¬InCode (kern []) 0x1000 ∧
    (let s := kern [] [(.sp, 0x0FFE)] (block 0x020FFE [0xF0, 0x0F])
     s.check .ss (s.reg .sp) 2 false = .ok () ∧ InCode s (s.stackWord 0)) ∧
    (let s := kern [] [(.sp, 0x0FFE)] (block 0x020FFE [0x00, 0x10])
     s.check .ss (s.reg .sp) 2 false = .ok () ∧ ¬InCode s (s.stackWord 0)) := by
  unfold InCode
  exact ⟨real_ready.1, (real_ready.2 false).2, by decide +kernel, by decide +kernel, by decide +kernel,
    by decide +kernel, by decide +kernel, ⟨of_passes (by decide +kernel), by decide +kernel⟩,
    ⟨of_passes (by decide +kernel), by decide +kernel⟩⟩

theorem witness_CallThenReturn : ∃ s t : State, Canonical s ∧ exec (.callCw 0x10) s = .next t ∧ s.stackRoom 1 = true ∧
    InCode s (s.nextIp + 0x10) ∧ InCode s s.nextIp ∧ s.segRights .ss false = true ∧
    s.isRom (s.cell (s.stackAddr 2)) = false ∧ s.isRom (s.cell (s.stackAddr 2 + 1)) = false := by
  refine ⟨kern [], _, kern_canonical, rfl, ?_⟩
  unfold InCode; decide +kernel

/-- Room at SP = 0, a frame at SP = FFFCH, a pointer at FFFCH. -/
theorem witness_FarTransfersReal : Canonical (real []) ∧ InReal (real []) ∧ (real [] [(.sp, 0)]).stackRoom 2 = true ∧
    (real [] [(.sp, 0xFFFC)]).checkFrame 2 = .ok () ∧ (real []).checkMem (.direct 0xFFFC) 4 false = .ok () :=
  ⟨real_ready.1, rfl, by decide +kernel, of_passes (by decide +kernel), of_passes (by decide +kernel)⟩

/-- 0008H at its limit, and the conforming 0058H; the pointer in the instruction and in memory. -/
theorem witness_FarToCodeSegment : Canonical (kern []) ∧ (kern []).msw.pe = true ∧ EntersCode (kern []) 0x0008 0x0FFF ∧
    EntersCode (user []) 0x005B 0x0FFF ∧ (kern [] [(.sp, 4)]).stackRoom 2 = true ∧
    JumpsFar (.jmpCd 0x0FFF 0x0008) (kern []) 0x0008 0x0FFF ∧ CallsFar (.callCd 0x0FFF 0x0008) (kern []) 0x0008 0x0FFF ∧
    (let s := kern [] [] (block 0x020FFC (bytesOf [0x0FFF, 0x0008]))
     Canonical s ∧ EntersCode s 0x0008 0x0FFF ∧ s.stackRoom 2 = true ∧
     JumpsFar (.jmpMd (.mem (.direct 0x0FFC))) s 0x0008 0x0FFF ∧
     CallsFar (.callEd (.mem (.direct 0x0FFC))) s 0x0008 0x0FFF) := by
  refine ⟨kern_canonical, rfl, ⟨?_, ?_, ?_, ?_, ?_, ?_⟩, ⟨?_, ?_, ?_, ?_, ?_, ?_⟩, ?_, .inl rfl, .inl rfl,
    by unfold Canonical; decide +kernel, ⟨?_, ?_, ?_, ?_, ?_, ?_⟩, ?_,
    .inr ⟨_, rfl, of_passes ?_, ?_, ?_⟩, .inr ⟨_, rfl, of_passes ?_, ?_, ?_⟩⟩ <;> decide +kernel

/-- CPL 3 with IOPL 3 is trusted. -/
theorem witness_FlagInstructions : (withFlags 0x3002 (user [])).untrusted = false ∧ (real []).untrusted = false := by
  decide +kernel

/-- The last word of the stack segment in both modes; IF may be changed at CPL 3 with IOPL 3, not with IOPL 2. -/
theorem witness_PopfLoadsFlags :
    (let s := real [] [(.sp, 0xFFFE)]
     s.check .ss (s.reg .sp) 2 false = .ok () ∧ s.msw.pe = false) ∧
    (let s := withFlags 0x3002 (user [] [(.sp, 0x7FFE)])
     s.check .ss (s.reg .sp) 2 false = .ok () ∧ s.msw.pe = true ∧ s.cpl ≠ 0 ∧ s.cpl.toNat ≤ s.flags.iopl.toNat) ∧
    ((kern []).cpl = 0 ∧ ¬(user []).cpl.toNat ≤ (withFlags 0x2002 (user [])).flags.iopl.toNat) :=
  ⟨⟨of_passes (by decide +kernel), rfl⟩, ⟨of_passes (by decide +kernel), by decide +kernel⟩, by decide +kernel⟩

theorem witness_TrustedInstructions : let s := withFlags 0x2002 (user [])
    let l := { s with cur := { s.cur with lock := true, len := 10 } }
    s.msw.pe = true ∧ s.flags.iopl.toNat < s.cpl.toNat ∧ Repeats s .ins true .repInsw .repe ∧
    l.msw.pe = true ∧ l.flags.iopl.toNat < l.cpl.toNat ∧ l.cur.lock = true ∧ l.cur.len ≤ 10 ∧
    invalidForm true (.incRw .ax) = false :=
  ⟨rfl, by decide +kernel, .f3, rfl, by decide +kernel, rfl, by decide +kernel, rfl⟩

theorem witness_PrivilegedInstructions : (user []).msw.pe = true ∧ (user []).cpl ≠ 0 := by decide +kernel

/-- An even port, and FFFFH, whose second byte is port 0. -/
theorem witness_InputOutput : (withFlags 0x3002 (user [])).untrusted = false ∧
    ((real [] [(.dx, 0xFFFE)]).reg .dx).toNat % 2 = 0 ∧ ((real [] [(.dx, 0xFFFF)]).reg .dx).toNat % 2 = 1 := by
  decide +kernel

/-- The machine with MSW and extension replaced. -/
def withExt (m : Msw) (e : Ext) (s : State) : State := { s with msw := m, env := { s.env with ext := e } }

/-- Each branch of WAIT and ESC: #NM, #MF, waiting, going on, with an extension and without, with BUSY and ERROR active
and an opcode that does not test them, with words of the operand before still requested, with an extension that waits
for data, for FNINIT and for another ESC; HLT at level 0; a boundary inside an ESC that waits. -/
theorem witness_HaltWaitEscape : (kern []).unprivileged = false ∧
    (let m : Msw := { pe := false, mp := true, em := false, ts := true }
     let s := withExt m Env.default.ext (real [])
     s.msw.mp = true ∧ s.msw.ts = true) ∧
    (let m : Msw := { pe := false, mp := true, em := false, ts := false }
     let f := fun e : Ext => withExt m e (real [])
     (f Env.default.ext).msw.ts = false ∧ (f Env.default.ext).env.ext.busyFor = 0 ∧ (f Env.default.ext).env.ext.error = false ∧
     (f { Env.default.ext with error := true }).env.ext.error = true ∧
     (f Env.default.ext).env.ext.held = false ∧ (f { Env.default.ext with busyFor := 1 }).env.ext.busyFor ≠ 0 ∧
     (f { Env.default.ext with held := true }).env.ext.held = true) ∧
    (let s := withExt { pe := false, mp := false, em := true, ts := false } Env.default.ext (real [])
     s.msw.em = true ∨ s.msw.ts = true) ∧
    (let e : Ext := { Env.default.ext with present := true, busyFor := 3, noErrorTest := [0b101010], fninit := [(0b011100, .reg .bx)] }
     let m : Msw := { pe := false, mp := false, em := false, ts := false }
     let s := withExt m e (real [])
     let r := withExt m { e with error := true } (real [])
     let q := { withExt m { e with pereq := 2 } (real []) with
       extOp := some { seg := realSeg 0, off := 0, op := 0b001000 } }
     let h := withExt m { e with held := true } (real [])
     s.msw.em = false ∧ s.msw.ts = false ∧ s.checkEsc 0b001000 (.mem (.direct 0xFFFE)) = .ok () ∧
     r.checkEsc 0b101010 (.mem (.direct 0xFFFE)) = .ok () ∧ q.checkEsc 0b001000 (.mem (.direct 0xFFFE)) = .ok () ∧
     s.extOp = none ∧ s.env.ext.error = false ∧ s.env.ext.present = true ∧
     0b001000 ∉ s.env.ext.noErrorTest ∧ (real []).env.ext.present = false ∧
     r.env.ext.error = true ∧ 0b101010 ∈ r.env.ext.noErrorTest ∧ 0b001000 ∉ r.env.ext.noErrorTest ∧
     ((0b001000, .mem (.direct 0xFFFE)) : BitVec 6 × Ew) ∉ r.env.ext.fninit ∧ r.env.ext.held = false ∧
     ¬(q.extOp = none ∨ q.env.ext.pereq = 0) ∧ q.env.ext.error = false ∧
     (h.env.ext.held = true ∧ h.extOp = none ∧ ((0b001000, .mem (.direct 0xFFFE)) : BitVec 6 × Ew) ∉ h.env.ext.fninit ∧
       ((0b011100, .reg .bx) : BitVec 6 × Ew) ∈ h.env.ext.fninit) ∧
     (let w := { h with waiting := .esc, nmiPending := true }
      w.waiting = .esc ∧ w.run = .running ∧ w.extOp = none)) :=
  ⟨by decide +kernel, by decide +kernel, by decide +kernel, .inl rfl, rfl, rfl, of_passes (by decide +kernel),
    of_passes (by decide +kernel), of_passes (by decide +kernel), by decide +kernel⟩

/-- Eight words at both ends of the segment: SP = 10H and SP = FFF0H. -/
theorem witness_PushAllPopAll : Canonical (real []) ∧ (real [] [(.sp, 0x10)]).stackRoom 8 = true ∧
    (real []).segRights .ss true = true ∧ (real [] [(.sp, 0xFFF0)]).checkFrame 8 = .ok () ∧
    (real []).segRights .ss false = true :=
  ⟨real_ready.1, by decide +kernel, by decide +kernel, of_passes (by decide +kernel), by decide +kernel⟩

/-- ENTER at levels 0, 2 and 31; a display word outside the new frame; LEAVE at the last word; BOUND at both bounds and
beyond them. -/
theorem witness_EnterLeaveBound :
    (let s := real [] [(.sp, 0x100), (.bp, 0x200)]
     Canonical s ∧ s.checkEnter 4 0 = .ok () ∧ s.checkEnter 4 2 = .ok () ∧ s.checkEnter 4 0x1F = .ok () ∧
     ∀ k ∈ s.wordCells (s.linear .ss (s.reg .bp - BitVec.ofNat 16 2)), k ∉ s.belowCells 3) ∧
    (let s := real [] [(.bp, 0xFFFE)]
     s.check .ss (s.reg .bp) 2 false = .ok ()) ∧
    (let f := fun v : Word => real [] [(.bx, v)] (put 0xFFFC (bytesOf [0xFFF8, 0x0009]) [])
     let inside := fun s : State => (s.memWord (.mem (.direct 0xFFFC)) 0).toInt ≤ (s.reg .bx).toInt ∧
       (s.reg .bx).toInt ≤ (s.memWord (.mem (.direct 0xFFFC)) 2).toInt
     (f 0).checkMem (.direct 0xFFFC) 4 false = .ok () ∧ inside (f 0xFFF8) ∧ inside (f 9) ∧ ¬inside (f 0xFFF7) ∧
     ¬inside (f 10)) :=
  ⟨⟨real_ready.1, of_passes (by decide +kernel), of_passes (by decide +kernel), of_passes (by decide +kernel),
    by decide +kernel⟩, of_passes (by decide +kernel), of_passes (by decide +kernel), by decide +kernel⟩

/-- The last six bytes of the segment. -/
theorem witness_SystemRegisters : OperandsReady (real []) 0xFFFF 0xFFFE ∧ (real []).checkMem (.direct 0xFFFA) 6 true = .ok () ∧
    (real []).checkMem (.direct 0xFFFA) 6 false = .ok () ∧ (kern []).unprivileged = false :=
  ⟨real_ready, of_passes (by decide +kernel), of_passes (by decide +kernel), by decide +kernel⟩

/-- LLDT of 0038H and of a null selector, LTR of 0030H. -/
theorem witness_LdtrAndTr : let s := kern [] [(.ax, 0x0038), (.bx, 0x0003), (.cx, 0x0030)]
    Canonical s ∧ s.msw.pe = true ∧ s.cpl = 0 ∧ s.checkEw (.mem (.direct 0x0FFE)) true = .ok () ∧
    s.checkEw (.reg .ax) false = .ok () ∧ s.checkLdt (s.getEw (.reg .ax)) = .ok () ∧
    s.checkLdt (s.getEw (.reg .bx)) = .ok () ∧ s.checkTr (s.getEw (.reg .cx)) = .ok () ∧
    selNull (s.getEw (.reg .bx)) = true ∧ selNull (s.getEw (.reg .ax)) = false := by
  intro s
  exact ⟨kern_canonical, rfl, by decide +kernel, of_passes (by decide +kernel), rfl, of_passes (by decide +kernel),
    of_passes (by decide +kernel), of_passes (by decide +kernel), by decide +kernel⟩

/-- A selector that passes, one that is not visible, one that names a gate, a null one; RPLs on both sides of ARPL. -/
theorem witness_SelectorQueries :
    let s := user [] [(.ax, 0x0023), (.bx, 0x0013), (.cx, 0x002B), (.dx, 0x0000)]
    Canonical s ∧ s.msw.pe = true ∧ s.checkEw (.reg .ax) false = .ok () ∧ s.checkEw (.mem (.direct 0x7FFE)) true = .ok () ∧
    (SelDefined s 0x0023 ∧ SelVisible s 0x0023) ∧ ¬SelVisible s 0x0013 ∧ (SelDefined s 0x002B ∧ SelVisible s 0x002B) ∧
    (s.desc 0x0023).access.getLsbD 4 = true ∧ ¬(s.desc 0x002B).access.getLsbD 4 = true ∧
    (arType (s.desc 0x002B).access).toNat = 4 ∧ ¬1 ≤ (arType 0xE0).toNat ∧ 7 < (arType 0xE8).toNat ∧
    ¬SelDefined s 0x0000 ∧ (selRpl (s.getEw (.reg .dx))).toNat < (selRpl (s.reg .ax)).toNat ∧
    ¬(selRpl (s.getEw (.reg .ax))).toNat < (selRpl (s.reg .bx)).toNat := by
  unfold SelDefined SelVisible
  exact ⟨user_ready.1, rfl, rfl, of_passes (by decide +kernel), by decide +kernel⟩

/-- Vector 255 with the table of RESET; OF set and clear. -/
theorem witness_SoftwareInterruptsReal : let s := real [] [(.sp, 6)]
    Canonical s ∧ InReal s ∧ s.stackRoom 3 = true ∧ 4 * (0xFF : Byte).toNat + 3 ≤ s.idtr.limit.toNat ∧
    s.flags.of = false ∧ (withFlags 0x0802 s).flags.of = true :=
  ⟨real_ready.1, rfl, by decide +kernel⟩

/-- Each case: the vector inside the table; outside with vector 8 inside; 8, 13 or no vector 8 inside; no room for the
first word (SP = 1), the second (3), the third (5). -/
theorem witness_ExceptionEntryReal :
    let f := fun l : Word => { real [] [(.sp, 6)] with idtr := { base := 0, limit := l } }
    let g := fun sp : Word => real [] [(.sp, sp)]
    Canonical (f 0x43) ∧ InReal (f 0x43) ∧ (f 0x43).stackRoom 3 = true ∧ 4 * (16 : Byte).toNat + 3 ≤ (f 0x43).idtr.limit.toNat ∧
    ((f 0x42).idtr.limit.toNat < 4 * (16 : Byte).toNat + 3 ∧ (16 : Byte) ≠ 8 ∧ (16 : Byte) ≠ 13 ∧
      35 ≤ (f 35).idtr.limit.toNat) ∧
    ((f 34).idtr.limit.toNat < 4 * (8 : Byte).toNat + 3 ∧ (f 34).idtr.limit.toNat < 35) ∧
    4 * (16 : Byte).toNat + 3 ≤ (g 1).idtr.limit.toNat ∧
    ((g 1).stackRoom 0 = true ∧ (g 1).stackRoom 1 = false) ∧ ((g 3).stackRoom 1 = true ∧ (g 3).stackRoom 2 = false) ∧
    ((g 5).stackRoom 2 = true ∧ (g 5).stackRoom 3 = false) :=
  ⟨real_ready.1, rfl, by decide +kernel⟩

theorem witness_InterruptReturnReal : InReal (real []) ∧ (real [] [(.sp, 0xFFFA)]).checkFrame 3 = .ok () :=
  ⟨rfl, of_passes (by decide +kernel)⟩

theorem witness_InterruptThenReturnReal : ∃ s t : State, Canonical s ∧ InReal s ∧ s.stackRoom 3 = true ∧
    4 * (0xFF : Byte).toNat + 3 ≤ s.idtr.limit.toNat ∧ s.cs = realSeg s.cs.sel ∧
    (∀ k ∈ s.belowCells 3, s.isRom k = false) ∧ exec (.intDb 0xFF) s = .next t :=
  ⟨real [], _, real_ready.1, rfl, by decide +kernel, by decide +kernel, by decide +kernel, by decide +kernel, rfl⟩

/-- Vector 13 with its error code and vector 3, at level 0. -/
theorem witness_GateAtSameLevel : Canonical (kern []) ∧ (kern []).msw.pe = true ∧
    GateReady (kern [] [(.sp, 8)]) 13 (3 + (some (0x0028 : Word)).toList.length) ∧ GateReady (kern []) 3 3 ∧
    (kern []).cpl.toNat ≤ ((kern []).idtGate 3).dpl.toNat := by
  refine ⟨kern_canonical, rfl, ⟨?_, ?_, ?_, ?_, ?_, ?_, ?_, ?_, ?_, ?_⟩, ⟨?_, ?_, ?_, ?_, ?_, ?_, ?_, ?_, ?_, ?_⟩, ?_⟩ <;>
    decide +kernel

/-- A return to 0008:0FFF, for IRET and for RET. -/
theorem witness_ReturnsAtSameLevel :
    let s := kern [] [(.sp, 0x0FFA)] (block 0x020FFA (bytesOf [0x0FFF, 0x0008, 0x0202]))
    Canonical s ∧ s.msw.pe = true ∧ s.segRights .ss false = true ∧ selRpl (s.stackWord 2) = s.cpl ∧
    ReturnsTo s (s.stackWord 2) (s.stackWord 0) s.cpl ∧ s.checkFrame 3 = .ok () ∧ s.flags.nt = false ∧
    s.checkFrame 2 = .ok () := by
  intro s
  refine ⟨by unfold Canonical; decide +kernel, rfl, ?_, ?_, ⟨?_, ?_, ?_, ?_, ?_, ?_⟩, of_passes ?_, rfl, of_passes ?_⟩ <;>
    decide +kernel

/-- The example of 47 R661, with 4 bytes released and with none; a DS of level 0 and an ES of level 3. -/
theorem witness_FarReturnOuterLevel :
    let f := fun m : List Host.Cell => { kern [] [(.sp, 0x7F4)] m with es := cache 0x0023 0x040000 0x7FFF 0xF3 }
    let s := f (block 0x207F4 (bytesOf [0x0105, 0x001B, 0x1111, 0x2222, 0x0100, 0x0023]))
    let u := f (block 0x207F4 (bytesOf [0x0105, 0x001B, 0x0100, 0x0023]))
    (Canonical s ∧ s.msw.pe = true ∧ ReturnsFar (.retFarDw 4) 4 ∧ s.check .ss (s.reg .sp + 2) 2 false = .ok () ∧
      s.cpl.toNat < (selRpl (s.stackWord 2)).toNat ∧ s.checkRetOuter (s.stackWord 2) 4 = .ok ()) ∧
    (Canonical u ∧ u.msw.pe = true ∧ ReturnsFar .retFar 0 ∧ u.check .ss (u.reg .sp + 2) 2 false = .ok () ∧
      u.cpl.toNat < (selRpl (u.stackWord 2)).toNat ∧ u.checkRetOuter (u.stackWord 2) 0 = .ok ()) ∧
    ¬ValidAtLevel s (s.seg .ds) (selRpl (s.stackWord 2)) ∧ ValidAtLevel s (s.seg .es) (selRpl (s.stackWord 2)) := by
  intro f s u
  refine ⟨⟨by unfold Canonical; decide +kernel, rfl, .inl rfl, of_passes ?_, ?_, of_passes ?_⟩,
    ⟨by unfold Canonical; decide +kernel, rfl, .inr ⟨rfl, rfl⟩, of_passes ?_, ?_, of_passes ?_⟩,
    by unfold ValidAtLevel; decide +kernel, by unfold ValidAtLevel; decide +kernel⟩ <;> decide +kernel

/-- The example of 47 R653. -/
theorem witness_CallGateToInnerLevel :
    let s := user [] [] (block 0x40100 [0x11, 0x11, 0x22, 0x22])
    let cd := s.desc (s.desc 0x002B).gateSel
    Canonical s ∧ s.msw.pe = true ∧ CallsFar (.callCd 0 0x002B) s 0x002B 0 ∧ s.checkFarSel 0x002B = .ok () ∧
    arType (s.desc 0x002B).access = 4 ∧ s.checkCallGate 0x002B = .ok () ∧
    cd.present = true ∧ arConforming cd.access = false ∧ cd.dpl.toNat < s.cpl.toNat ∧
    s.innerStack cd.dpl false = .ok (0x0800, 0x0010) ∧ s.checkCallInner 0x002B 0x0010 0x0800 = .ok () := by
  intro s cd
  exact ⟨by unfold Canonical; decide +kernel, rfl, .inl rfl, of_passes (by decide +kernel), by decide +kernel,
    of_passes (by decide +kernel), by decide +kernel, by decide +kernel, by decide +kernel, of_answer (by decide +kernel), of_passes (by decide +kernel)⟩

/-- The example of 47 R694, by JMP and by CALL. -/
theorem witness_TaskSwitchByJumpAndCall : ∃ t u : State, Canonical (kern []) ∧ (kern []).msw.pe = true ∧
    JumpsFar (.jmpCd 0 0x0030) (kern []) 0x0030 0 ∧ CallsFar (.callCd 0 0x0030) (kern []) 0x0030 0 ∧
    (kern []).checkFarSel 0x0030 = .ok () ∧
    arType ((kern []).desc 0x0030).access = 1 ∧ (kern []).farTss 0x0030 .jmp = .ok t ∧ (kern []).farTss 0x0030 .call = .ok u := by
  obtain ⟨t, ht⟩ := answers (c := (kern []).farTss 0x0030 .jmp) (by decide +kernel)
  obtain ⟨u, hu⟩ := answers (c := (kern []).farTss 0x0030 .call) (by decide +kernel)
  exact ⟨t, u, kern_canonical, rfl, .inl rfl, .inl rfl, of_passes (by decide +kernel), by decide +kernel, ht, hu⟩

/-- Each clause: an NMI; an INTR with IF set; an INTR held off. -/
theorem witness_BoundaryEventsReal :
    let s := { withFlags 0x0202 (real [] [(.sp, 6)]) with env := { Env.default with intr := [0x20] } }
    Canonical s ∧ InReal s ∧ s.stackRoom 3 = true ∧ s.idtr.limit.toNat = 0x3FF ∧
    (s.intInhibit ≠ .ss ∧ { s with nmiPending := true }.nmiPending = true ∧ s.nmiMasked = false) ∧
    (s.nmiPending = false ∧ s.peOverrun = false ∧ s.env.intr = 0x20 :: [] ∧ s.flags.ief = true ∧ s.intInhibit = .none) ∧
    (withFlags 0x0002 s).flags.ief = false :=
  ⟨real_ready.1, rfl, by decide +kernel⟩

theorem witness_InvalidEncodings : (real []).msw.pe = false ∧ Instr.udD6 ∈ udRows ∧ Instr.gpFF_7 ∈ gpRows ∧
    Instr.leaRwM .ax (.reg .bx) ∈ regOfMemForms .ax .bx ∧ Instr.verrEw (.reg .ax) ∈ protectedOnly .ax (.reg .ax) := by
  decide +kernel

theorem witness_DecodeUndoesEncode : (Instr.enterDwDb 0xFFFF 0xFF).wf = true ∧ (Instr.rep).wf = true ∧
    (Instr.rep = .rep ∨ Instr.rep = .repne → ([] : List Byte) = []) := ⟨rfl, rfl, fun _ => rfl⟩

/-- A quiet state at `04 01`, one at `26 04 01`, eleven bytes consumed, a quiet state after the end of the segment; NOP
on both sides of it, and a jump inside the segment. -/
theorem witness_StepRunsTheDecodedInstruction : ∃ t u : State,
    (let s := real [0x04, 0x01]
     let s1 := { s with tfAtStart := s.flags.tf, intInhibit := .none, waiting := .none, cur := { Cur.empty with len := 2 } }
     Quiet s ∧ isPrefix (.addAlDb 1) = false ∧ s.fetch tokenBytes s.ip.toNat = [0x04, 0x01, 0xFF, 0xFF, 0xFF, 0xFF] ∧
     decode [0x04, 0x01, 0xFF, 0xFF, 0xFF, 0xFF] = .ok (.addAlDb 1, [0xFF, 0xFF, 0xFF, 0xFF]) ∧
     exec (.addAlDb 1) s1 = .next t) ∧
    (let s := real [0x26, 0x04, 0x01]
     let s1 := { s with tfAtStart := s.flags.tf, intInhibit := .none, waiting := .none,
                        cur := { Cur.empty with seg := some .es, len := 3 } }
     Quiet s ∧ s.fetch tokenBytes s.ip.toNat = [0x26, 0x04, 0x01, 0xFF, 0xFF, 0xFF] ∧
     decode [0x26, 0x04, 0x01, 0xFF, 0xFF, 0xFF] = .ok (.segEs, [0x04, 0x01, 0xFF, 0xFF, 0xFF]) ∧
     s.fetch tokenBytes (s.ip.toNat + 1) = [0x04, 0x01, 0xFF, 0xFF, 0xFF, 0xFF] ∧ exec (.addAlDb 1) s1 = .next u) ∧
    10 < { real [] with cur := { Cur.empty with len := 11 } }.cur.len ∧
    (let s := { real [] with ip := 0, pastEnd := true }
     Quiet s ∧ s.pastEnd = true) ∧
    (let f := fun ip : Word => { real [] with ip := ip, cur := { Cur.empty with len := 1 } }
     0xFFFF < (f 0xFFFF).ip.toNat + (f 0xFFFF).cur.len ∧ ¬0xFFFF < (f 0xFFFE).ip.toNat + (f 0xFFFE).cur.len ∧
     InCode (f 0xFFFF) ((f 0xFFFF).nextIp + sext16 0)) :=
  ⟨_, _, ⟨⟨rfl, rfl, .inl rfl, rfl⟩, rfl, by decide +kernel, rfl, rfl⟩,
    ⟨⟨rfl, rfl, .inl rfl, rfl⟩, by decide +kernel, rfl, by decide +kernel, rfl⟩, by decide +kernel,
    ⟨⟨rfl, rfl, .inl rfl, rfl⟩, rfl⟩, by unfold InCode; decide +kernel⟩

theorem witness_ResetState : { kern [] with env := { Env.default with reset := true } }.env.reset = true := rfl

theorem witness_StepKeepsMemoryCanonical : ∃ t : State, Canonical (kern [0x40]) ∧ step (kern [0x40]) = .next t := by
  obtain ⟨t, ht⟩ := of_goesOn (o := step (kern [0x40])) (by decide +kernel)
  exact ⟨t, by unfold Canonical; decide +kernel, ht⟩

theorem witness_StepKeepsProtectedMode : ∃ t : State, (kern [0x40]).env.reset = false ∧ (kern [0x40]).msw.pe = true ∧
    step (kern [0x40]) = .next t := by
  obtain ⟨t, ht⟩ := of_goesOn (o := step (kern [0x40])) (by decide +kernel)
  exact ⟨t, rfl, rfl, ht⟩

theorem witness_OnlyLevelZeroSetsTheSystem : ∃ t : State, (user []).msw.pe = true ∧ (user []).cpl ≠ 0 ∧
    exec .nop (user []) = .next t := ⟨_, rfl, by decide +kernel, rfl⟩

theorem witness_AccessChecks : 0 < 1 ∧ (real []).msw.pe = false ∧ (kern []).msw.pe = true := ⟨by decide, rfl, rfl⟩

/-- The last address: its word goes on at address 0. -/
theorem witness_MemoryReadsBack : Canonical (kern []) ∧ (kern []).isRom ((kern []).cell 0xFFFFFF) = false ∧
    (kern []).isRom ((kern []).cell (0xFFFFFF + 1)) = false ∧ (real []).msw.pe = false ∧ (real []).env.a20Mask = true ∧
    (kern []).msw.pe = true := ⟨kern_canonical, rfl, rfl, rfl, rfl, rfl⟩

end Sys2Proof.Tests
end

section
/-!
SUPPORT. What one instruction keeps: every operation that `Laws/Keep` leaves open, then `exec` over every constructor.
Only LGDT, LIDT and LMSW change more than `Kept` allows.
-/

namespace Sys2Proof.Machine

/-! ### Completing: registers, FLAGS and IP do not count -/

theorem Kept.advance {s t : State} (h : Kept s t) : Kept s t.advance := h.trans (Kept.of_eq rfl rfl rfl rfl)
theorem Kept.drawn {s t : State} (h : Kept s t) : Kept s t.drawn := h.trans (Kept.of_eq rfl rfl rfl rfl)
theorem Kept.inhibit {s t : State} (h : Kept s t) (i : Inhibit) : Kept s (t.inhibit i) :=
  h.trans (Kept.of_eq rfl rfl rfl rfl)
theorem Kept.setReg {s t : State} (h : Kept s t) (r : Reg16) (v : Word) : Kept s (t.setReg r v) :=
  h.trans (t.setReg_kept r v)
theorem Kept.setReg8 {s t : State} (h : Kept s t) (r : Reg8) (v : Byte) : Kept s (t.setReg8 r v) :=
  h.trans (Kept.of_eq rfl rfl rfl rfl)
theorem Kept.setFlags {s t : State} (h : Kept s t) (f : Flags) : Kept s (t.setFlags f) := h.trans (t.setFlags_kept f)
theorem Kept.setIp {s t : State} (h : Kept s t) (w : Word) : Kept s (t.setIp w) := h.trans (t.setIp_kept w)
theorem Kept.popBytes {s t : State} (h : Kept s t) (k : Word) : Kept s (t.popBytes k) := h.trans (t.popBytes_kept k)
theorem Kept.push {s t : State} (h : Kept s t) (v : Word) : Kept s (t.push v) := h.trans (t.push_kept v)
theorem Kept.raise {s t : State} (h : Kept s t) (e : Exn) : Kept s (t.raise e) := h.trans (t.raise_kept e)

/-- A meaning that takes its exceptions in the state before and whose effect keeps. -/
theorem Kept.attempt {s t : State} (h : Kept s t) {c : Except Exn Unit} : KeptOut s (attempt s c t) :=
  attempt_kept (Kept.refl s) h

/-- The effect changes registers, FLAGS, IP or what is hidden, but no memory. -/
theorem attempt_kept_of_eq {s t : State} {c : Except Exn Unit} (hm : t.mem = s.mem) (hw : t.msw = s.msw)
    (hg : t.gdtr = s.gdtr) (hi : t.idtr = s.idtr) : KeptOut s (attempt s c t) :=
  (Kept.of_eq hm hw hg hi).attempt

/-- The same with no check. -/
theorem next_kept_of_eq {s t : State} (hm : t.mem = s.mem) (hw : t.msw = s.msw) (hg : t.gdtr = s.gdtr)
    (hi : t.idtr = s.idtr) : KeptOut s (.next t) :=
  KeptOut.next (Kept.of_eq hm hw hg hi)

/-! ### Operands -/

theorem State.rmwEb_kept (s : State) (e : Eb) (f : Byte → Flags → Byte × Flags) : Kept s (s.rmwEb e f) :=
  (s.putEb_kept e _).setFlags _

theorem State.rmwEw_kept (s : State) (e : Ew) (f : Word → Flags → Word × Flags) : Kept s (s.rmwEw e f) :=
  (s.putEw_kept e _).setFlags _

theorem State.spoilCf_kept (s : State) (p : Bool) : Kept s (s.spoilCf p) := by
  cases p <;> exact Kept.of_eq rfl rfl rfl rfl

theorem State.carryFaultEb_kept (s : State) (e : Eb) : Kept s (s.carryFaultEb e) := by
  cases e with
  | reg r => exact Kept.refl s
  | mem m => exact s.spoilCf_kept _

theorem State.carryFaultEw_kept (s : State) (e : Ew) : Kept s (s.carryFaultEw e) := by
  cases e with
  | reg r => exact Kept.refl s
  | mem m => exact s.spoilCf_kept _

theorem State.rotateFaultEb_kept (s : State) (n : Nat) (e : Eb) : Kept s (s.rotateFaultEb n e) := by
  unfold State.rotateFaultEb
  split
  · exact Kept.refl s
  · exact s.carryFaultEb_kept e

theorem State.rotateFaultEw_kept (s : State) (n : Nat) (e : Ew) : Kept s (s.rotateFaultEw n e) := by
  unfold State.rotateFaultEw
  split
  · exact Kept.refl s
  · exact s.carryFaultEw_kept e

theorem State.putDiv8_kept (s : State) (x : Option (Byte × Byte)) : Kept s (s.putDiv8 x) := by
  cases x <;> exact Kept.of_eq rfl rfl rfl rfl

theorem State.putDiv16_kept (s : State) (x : Option (Word × Word)) : Kept s (s.putDiv16 x) := by
  cases x <;> exact Kept.of_eq rfl rfl rfl rfl

/-! ### The stack -/

theorem pushVal_kept (s : State) (v : Word) : KeptOut s (pushVal s v) := by
  refine attemptIn_kept ?_ (s.push_kept v).advance
  unfold State.pushFault
  split
  · exact Kept.refl s
  · exact s.setReg_kept ..

theorem pushMem_kept (s : State) (e : Ew) : KeptOut s (pushMem s e) := by
  unfold pushMem
  split
  · exact pushVal_kept s _
  · exact KeptOut.next (s.raise_kept _)

theorem State.wrapFault_kept (s : State) : Kept s s.wrapFault := ((s.setReg_kept ..).drawn).raise _

/-- The pushes of PUSHA stop where those of Real Address Mode do. -/
theorem pushUntil_eq (l : List Word) : ∀ s : State, pushUntil l s = pushAllReal l s := by
  induction l with
  | nil => exact fun _ => rfl
  | cons w l ih =>
    intro s
    unfold pushUntil pushAllReal
    cases s.check .ss (s.spDown 2) 2 true with
    | ok _ => exact ih _
    | error _ => rfl

theorem State.popInto_kept (s : State) (r : Option Reg16) : Kept s (s.popInto r) := by
  cases r <;> exact Kept.of_eq rfl rfl rfl rfl

/-- What a row of pops of POPA keeps, whether the last one succeeds or not. -/
theorem popUntil_kept (l : List (Option Reg16)) : ∀ s : State,
    (∀ t, popUntil l s = .ok t → Kept s t) ∧ ∀ t, popUntil l s = .error t → Kept s t := by
  induction l with
  | nil => exact fun s => ⟨fun t e => by cases e; exact Kept.refl s, fun t e => by cases e⟩
  | cons r l ih =>
    intro s
    unfold popUntil
    split
    · exact ⟨fun t e => (s.popInto_kept r).trans ((ih _).1 t e), fun t e => (s.popInto_kept r).trans ((ih _).2 t e)⟩
    · exact ⟨fun t e => (by cases e), fun t e => by cases e; exact Kept.refl s⟩

theorem pushAll_kept (s : State) : KeptOut s (pushAll s) := by
  have h := pushAllReal_kept s.pushaWords s
  unfold pushAll
  rw [pushUntil_eq]
  split
  · exact KeptOut.next (s.raise_kept _)
  · split
    · rename_i t e; exact KeptOut.next (h.1 t e).advance
    · rename_i t e; exact KeptOut.next ((h.2 t e).trans t.wrapFault_kept)

theorem popAll_kept (s : State) : KeptOut s (popAll s) := by
  have h := popUntil_kept popaRegs s
  unfold popAll
  split
  · exact KeptOut.next (s.raise_kept _)
  · split
    · rename_i t e; exact KeptOut.next (h.1 t e).advance
    · rename_i t e; exact KeptOut.next ((h.2 t e).trans t.wrapFault_kept)

theorem enterCopy_kept : ∀ (k : Nat) (t : Word) (s : State), Kept s (enterCopy k t s)
  | 0, _, s => Kept.refl s
  | k + 1, t, s => (s.push_kept _).trans (enterCopy_kept k (t - 2) _)

theorem State.enter_kept (s : State) (w : Word) (b : Byte) : Kept s (s.enter w b) := by
  unfold State.enter
  refine ((?_ : Kept s (if enterLevel b = 0 then _ else _)).setReg ..).setReg ..
  split
  · exact s.push_kept _
  · exact ((s.push_kept _).trans (enterCopy_kept ..)).push _

/-! ### Near transfers -/

theorem State.jumpIf_kept (s : State) (c : Bool) (t : Word) : Kept s (s.jumpIf c t) := by
  cases c <;> exact Kept.of_eq rfl rfl rfl rfl

theorem loopIf_kept (s : State) (z : Bool) (b : Byte) : KeptOut s (loopIf s z b) :=
  ((s.setReg_kept ..).trans (State.jumpIf_kept ..)).attempt

theorem State.callNear_kept (s : State) (t : Word) : Kept s (s.callNear t) := (s.push_kept _).setIp t

/-! ### Input and output, the processor extension -/

theorem State.inWord_kept (s : State) (p : Word) : Kept s (s.inWord p) := by
  refine Kept.setReg ?_ ..
  rw [s.afterPortWord_eq]
  exact Kept.of_eq rfl rfl rfl rfl

theorem State.outWord_kept (s : State) (p v : Word) : Kept s (s.outWord p v) := by
  rw [s.outWord_eq]
  exact Kept.of_eq rfl rfl rfl rfl

theorem waitExt_kept (s : State) : KeptOut s (waitExt s) := by
  unfold waitExt
  split
  · exact KeptOut.next (s.raise_kept _)
  · split
    · exact (Kept.refl s).advance.attempt
    · exact next_kept_of_eq rfl rfl rfl rfl

theorem State.afterBusy_kept (s : State) (op : BitVec 6) (e : Ew) : Kept s (s.afterBusy op e) := by
  unfold State.afterBusy
  split
  · exact s.serviceAll_kept
  · exact s.serviceAll_kept.trans (State.setExt_kept ..)

theorem State.handEsc_kept (s : State) (op : BitVec 6) (e : Ew) : Kept s (s.handEsc op e) := by
  unfold State.handEsc
  split
  · exact Kept.of_eq rfl rfl rfl rfl
  · exact Kept.refl s

theorem escExt_kept (s : State) (op : BitVec 6) (e : Ew) : KeptOut s (escExt s op e) := by
  have hb := s.afterBusy_kept op e
  unfold escExt
  split
  · exact KeptOut.next (s.raise_kept _)
  · split
    · exact KeptOut.next (s.raise_kept _)
    · split
      · exact KeptOut.next (s.serviceAll_kept.trans (Kept.of_eq rfl rfl rfl rfl))
      · exact attempt_kept hb (hb.trans (State.handEsc_kept ..)).advance

/-! ### Selector tests, stores of tables -/

theorem State.storeTable_kept (s : State) (e : Ew) (t : TableReg) : Kept s (s.storeTable e t) := by
  cases e with
  | reg r => exact Kept.refl s
  | mem m =>
    exact (s.poke16_kept ..).trans <| (State.poke16_kept ..).trans <| (State.poke8_kept ..).trans (State.poke8_kept ..)

theorem State.selTest_kept (s : State) (ok : Bool) (sel : Word) : Kept s (s.selTest ok sel) := by
  unfold State.selTest
  refine Kept.setFlags ?_ _
  split
  · exact s.setAccessed_kept ..
  · exact Kept.refl s

theorem State.selLoad_kept (s : State) (ok : Bool) (sel : Word) (r : Reg16) (v : Word) :
    Kept s (s.selLoad ok sel r v) := by
  unfold State.selLoad
  dsimp only
  split
  · exact (s.selTest_kept ..).setReg ..
  · exact s.selTest_kept ..

theorem State.arpl_kept (s : State) (e : Ew) (q : Word) : Kept s (s.arpl e q) := by
  unfold State.arpl
  dsimp only
  split
  · exact (s.putEw_kept ..).setFlags _
  · exact s.setFlags_kept _

/-! ### Every instruction -/

/-- The instructions that load a table register or the machine status word (48 R724, R725, R727). -/
def loadsSystem : Instr → Bool
  | .lgdtM _ | .lidtM _ | .lmswEw _ => true
  | _ => false

/-- Every instruction but LGDT, LIDT and LMSW keeps what the shared operations keep, whatever exception it takes. -/
theorem exec_kept {i : Instr} (h : loadsSystem i = false) (s : State) : KeptOut s (exec i s) := by
  cases i with
  | lgdtM | lidtM | lmswEw => cases h
  -- an operand is read, combined and written back
  | addEbRb | addRbEb | addEbDb | adcRbEb | sbbRbEb | subEbRb | subRbEb | subEbDb | rolEb1 | rorEb1 | notEb | negEb
  | incEb | decEb => exact (s.rmwEb_kept ..).advance.attempt
  | addEwRw | addRwEw | addEwDw | addEwDb | adcRwEw | sbbRwEw | subEwRw | subRwEw | subEwDw | subEwDb | rolEw1 | rorEw1
  | notEw | negEw | incEw | decEw => exact (s.rmwEw_kept ..).advance.attempt
  | orEbRb | orRbEb | orEbDb | andEbRb | andRbEb | andEbDb | xorEbRb | xorRbEb | xorEbDb | rolEbDb | rorEbDb | salEbDb
  | shrEbDb | sarEbDb | salEb1 | shrEb1 | sarEb1 | rolEbCl | rorEbCl | salEbCl | shrEbCl | sarEbCl =>
    exact (s.rmwEb_kept ..).advance.drawn.attempt
  | orEwRw | orRwEw | orEwDw | andEwRw | andRwEw | andEwDw | xorEwRw | xorRwEw | xorEwDw | imulRwEwDw | imulRwEwDb
  | rolEwDb | rorEwDb | salEwDb | shrEwDb | sarEwDb | salEw1 | shrEw1 | sarEw1 | rolEwCl | rorEwCl | salEwCl | shrEwCl
  | sarEwCl => exact (s.rmwEw_kept ..).advance.drawn.attempt
  | addAlDb | adcAlDb | sbbAlDb | subAlDb => exact KeptOut.next (s.rmwEb_kept ..).advance
  | addAxDw | adcAxDw | sbbAxDw | subAxDw | incRw | decRw => exact KeptOut.next (s.rmwEw_kept ..).advance
  | orAlDb | andAlDb | xorAlDb | daa | das => exact KeptOut.next (s.rmwEb_kept ..).advance.drawn
  | orAxDw | andAxDw | xorAxDw | aaa | aas | aam | aad => exact KeptOut.next (s.rmwEw_kept ..).advance.drawn
  -- the same, with a fault that may replace CF
  | adcEbRb | adcEbDb | sbbEbRb | sbbEbDb | rclEb1 | rcrEb1 =>
    exact attemptIn_kept (s.carryFaultEb_kept _) (s.rmwEb_kept ..).advance
  | adcEwRw | adcEwDw | adcEwDb | sbbEwRw | sbbEwDw | sbbEwDb | rclEw1 | rcrEw1 =>
    exact attemptIn_kept (s.carryFaultEw_kept _) (s.rmwEw_kept ..).advance
  | rclEbDb | rcrEbDb | rclEbCl | rcrEbCl =>
    exact attemptIn_kept (s.rotateFaultEb_kept ..) (s.rmwEb_kept ..).advance.drawn
  | rclEwDb | rcrEwDb | rclEwCl | rcrEwCl =>
    exact attemptIn_kept (s.rotateFaultEw_kept ..) (s.rmwEw_kept ..).advance.drawn
  -- only registers, FLAGS and hidden state are written
  | cmpEbRb | cmpEwRw | cmpRbEb | cmpRwEw | cmpEbDb | cmpEwDw | cmpEwDb | testEbRb | testEwRw | testEbDb | testEwDw
  | cli | sti | popf | mulEb | imulEb | mulEw | imulEw | movRbEb | movRwEw | leaRwM | movAlXb | movAxXw | xlatb | popRw
  | leave | boundRwMd | hlt | inAlDb | inAlDx | outDbAl | outDxAl | lldtEw | retNearDw | retNear | jmpCw | jmpCb
  | jmpEw => exact attempt_kept_of_eq rfl rfl rfl rfl
  | cmpAlDb | cmpAxDw | testAlDb | testAxDw | sahf | lahf | cmc | clc | stc | cld | std | cbw | cwd | nop | movRbDb
  | movRwDw | xchgAxRw | segEs | segCs | segSs | segDs | lock | repne | rep =>
    exact next_kept_of_eq rfl rfl rfl rfl
  | clts =>
    refine Kept.attempt ?_
    exact ⟨id, rfl, rfl, rfl, rfl, rfl⟩
  | divEb | idivEb => exact (s.putDiv8_kept _).advance.drawn.attempt
  | divEw | idivEw => exact (s.putDiv16_kept _).advance.drawn.attempt
  | inAxDb | inAxDx => exact (s.inWord_kept _).advance.attempt
  | outDbAx | outDxAx => exact (s.outWord_kept ..).advance.attempt
  -- an operand is stored
  | movEbRb | movEbDb => exact (s.putEb_kept ..).advance.attempt
  | movEwRw | movEwDw | movEwEs | movEwCs | movEwSs | movEwDs | sldtEw | strEw | smswEw =>
    exact (s.putEw_kept ..).advance.attempt
  | movXbAl => exact (s.poke8_kept ..).advance.attempt
  | movXwAx => exact (s.poke16_kept ..).advance.attempt
  | xchgEbRb => exact ((s.putEb_kept ..).setReg8 ..).advance.attempt
  | xchgEwRw => exact ((s.putEw_kept ..).setReg ..).advance.attempt
  | popMw => exact ((s.putEw_kept ..).popBytes _).advance.attempt
  | sgdtM | sidtM => exact (s.storeTable_kept ..).advance.drawn.attempt
  | arplEwRw => exact (s.arpl_kept ..).advance.attempt
  | pushEs | pushCs | pushSs | pushDs | pushRw | pushDw | pushDb | pushf => exact pushVal_kept s _
  | pushMw => exact pushMem_kept s _
  | pusha => exact pushAll_kept s
  | popa => exact popAll_kept s
  | enterDwDb => exact (s.enter_kept ..).advance.attempt
  -- a segment register or TR is loaded, a descriptor is marked
  | movEsEw | movDsEw => exact (s.applySreg_kept ..).advance.attempt
  | movSsEw => exact ((s.applySreg_kept ..).advance.inhibit _).attempt
  | popEs | popDs => exact ((s.applySreg_kept ..).popBytes _).advance.attempt
  | popSs => exact (((s.applySreg_kept ..).popBytes _).advance.inhibit _).attempt
  | lesRwEd | ldsRwEd => exact ((s.applySreg_kept ..).setReg ..).advance.attempt
  | ltrEw => exact (s.applyTr_kept _).advance.attempt
  | verrEw | verwEw => exact (s.selTest_kept ..).advance.attempt
  | larRwEw | lslRwEw => exact (s.selLoad_kept ..).advance.attempt
  -- control is transferred
  | joCb | jnoCb | jbCb | jaeCb | jeCb | jneCb | jbeCb | jaCb | jsCb | jnsCb | jpCb | jnpCb | jlCb | jgeCb | jleCb
  | jgCb | jcxzCb => exact (s.jumpIf_kept ..).attempt
  | loopneCb | loopeCb | loopCb => exact loopIf_kept s _ _
  | callCw | callEw => exact (s.callNear_kept _).attempt
  | jmpCd => exact finishT_kept (s.jmpFar_kept ..)
  | callCd => exact finishT_kept (s.callFar_kept ..)
  | jmpMd => exact finishT_kept (KeptT.check (Kept.refl s) fun _ => s.jmpFar_kept ..)
  | callEd => exact finishT_kept (KeptT.check (Kept.refl s) fun _ => s.callFar_kept ..)
  | retFarDw | retFar => exact finish_kept (s.retFar_kept _)
  | intDb | int3 => exact KeptOut.next (s.softInt_kept _)
  | into =>
    refine KeptOut.next ?_
    split
    · exact s.softInt_kept _
    · exact (Kept.refl s).advance
  | iret => exact finishT_kept s.iret_kept
  -- strings and the processor extension
  | insb | insw | outsb | outsw | movsb | movsw | cmpsb | cmpsw | stosb | stosw | lodsb | lodsw | scasb | scasw
  | repInsb | repInsw | repMovsb | repMovsw | repOutsb | repOutsw | repStosb | repStosw | repLodsb | repLodsw
  | repeCmpsb | repeCmpsw | repeScasb | repeScasw | repneCmpsb | repneCmpsw | repneScasb | repneScasw => exact strRun_kept s _ _ _
  | wait => exact waitExt_kept s
  | esc => exact escExt_kept s _ _
  -- the invalid encodings
  | ud0F | ud83_1 | ud83_4 | ud83_6 | ud64 | ud65 | ud66 | ud67 | ud82 | ud8C_4 | ud8C_5 | ud8C_6 | ud8C_7 | ud8E_1
  | ud8E_4 | ud8E_5 | ud8E_6 | ud8E_7 | udC0_6 | udC1_6 | udD0_6 | udD1_6 | udD2_6 | udD3_6 | udC6_1 | udC6_2 | udC6_3
  | udC6_4 | udC6_5 | udC6_6 | udC6_7 | udC7_1 | udC7_2 | udC7_3 | udC7_4 | udC7_5 | udC7_6 | udC7_7 | udD6 | udF1
  | udF6_1 | udF7_1 | udFE_2 | udFE_3 | udFE_4 | udFE_5 | udFE_6 | udFE_7 | ud0F00_6 | ud0F00_7 | ud0F01_5 | ud0F01_7
  | gp8F_1 | gp8F_2 | gp8F_3 | gp8F_4 | gp8F_5 | gp8F_6 | gp8F_7 | gpFF_7 => exact KeptOut.next (s.raise_kept _)

end Sys2Proof.Machine
end

section
/-!
SUPPORT. What a step keeps, proved once for every property: one that the shared operations and every instruction keep
is kept by the decoding loop, by the boundary, and so by every step with RESET inactive.
-/

namespace Sys2Proof.Machine

theorem State.consumed_kept (s : State) (n : Nat) : Kept s (s.consumed n) := Kept.of_eq rfl rfl rfl rfl
theorem State.begin_kept (s : State) : Kept s s.begin := Kept.of_eq rfl rfl rfl rfl

/-- A property of states that the shared operations and every instruction keep. -/
structure Lasting (P : State → Prop) : Prop where
  kept : ∀ {s t : State}, Kept s t → P s → P t
  exec : ∀ {i : Instr} {s t : State}, exec i s = .next t → P s → P t

namespace Lasting

variable {P : State → Prop} (hP : Lasting P)
include hP

theorem runMain {i : Instr} {s t : State} (h : runMain i s = .next t) (hs : P s) : P t := by
  unfold Sys2Proof.Machine.runMain at h
  split at h
  · cases h; exact hP.kept (s.raise_kept _) hs
  · split at h
    · exact hP.exec h hs
    · split at h
      · cases h; exact hP.kept (s.raise_kept _) hs
      · exact hP.exec h hs

theorem refuseMain {r : Refusal} {s t : State} (h : refuseMain r s = .next t) (hs : P s) : P t := by
  unfold Sys2Proof.Machine.refuseMain at h
  split at h
  · cases h; exact hP.kept (s.raise_kept _) hs
  · split at h
    · cases h; exact hP.kept (s.raise_kept _) hs
    · cases h

/-- The decoding loop, by induction on its rounds: after a token that only latches, the loop goes on. -/
theorem runTokens : ∀ (k : Nat) {s t : State}, runTokens k s = .next t → P s → P t
  | 0, s, _, h, hs => by cases h; exact hP.kept (s.raise_kept _) hs
  | k + 1, s, t, h, hs => by
    have consumed (n : Nat) : P (s.consumed n) := hP.kept (s.consumed_kept n) hs
    rw [Sys2Proof.Machine.runTokens] at h
    dsimp only at h
    split at h
    · cases h; exact hP.kept (s.raise_kept _) hs
    · exact hP.refuseMain h hs
    · exact hP.refuseMain h hs
    · split at h
      · split at h
        · rename_i u hu
          exact runTokens k h (hP.exec hu (consumed _))
        · cases h
        · cases h
      · exact hP.runMain h (consumed _)

theorem instrCycle {s t : State} (h : s.instrCycle = .next t) (hs : P s) : P t := by
  have hb : P s.begin := hP.kept s.begin_kept hs
  unfold State.instrCycle at h
  split at h
  · rename_i u hu
    cases h
    exact hP.kept u.afterInstr_kept (hP.runTokens _ hu hb)
  · cases h
  · cases h

/-- Every step with RESET inactive keeps the property. -/
theorem step {s t : State} (hr : s.env.reset = false) (h : step s = .next t) (hs : P s) : P t := by
  have hb : P s.atBoundary := hP.kept s.atBoundary_kept hs
  unfold Sys2Proof.Machine.step State.cycle at h
  rw [hr] at h
  simp only [Bool.false_eq_true, if_false] at h
  split at h
  · exact hP.instrCycle h hb
  · cases h; exact hb

end Lasting

/-! ### Protected Mode -/

/-- A meaning with checks ends in its effect or takes an exception. -/
theorem attempt_cases {s t u : State} {c : Except Exn Unit} (h : attempt s c t = .next u) :
    u = t ∨ ∃ e, u = s.raise e := by
  cases c with
  | ok _ => cases h; exact .inl rfl
  | error e => cases h; exact .inr ⟨e, rfl⟩

/-- An effect that leaves PE set leaves it set whatever exception stands in its place. -/
theorem attempt_pe {s t u : State} {c : Except Exn Unit} (h : attempt s c t = .next u) (hs : s.msw.pe = true)
    (ht : t.msw.pe = true) : u.msw.pe = true := by
  obtain rfl | ⟨e, rfl⟩ := attempt_cases h
  · exact ht
  · rw [(s.raise_kept e).pe, hs]

/-- LMSW can set PE and cannot clear it (48 R727). -/
theorem Msw.load_pe {m : Msw} (h : m.pe = true) (w : Word) : (m.load w).pe = true := by simp [Msw.load, h]

/-- No instruction clears PE: LGDT and LIDT do not touch MSW, LMSW cannot clear it, the rest keep it. -/
theorem exec_keeps_pe {i : Instr} {s t : State} (h : exec i s = .next t) (hs : s.msw.pe = true) :
    t.msw.pe = true := by
  cases hi : loadsSystem i with
  | false => rw [(exec_kept hi s t h).pe, hs]
  | true =>
    cases i with
    | lgdtM | lidtM => exact attempt_pe h hs hs
    | lmswEw e => exact attempt_pe h hs (Msw.load_pe hs _)
    | _ => cases hi

/-- PE, once set, lasts. -/
theorem lasting_pe : Lasting fun s => s.msw.pe = true where
  kept k hs := k.pe.trans hs
  exec := exec_keeps_pe

/-- Settles O57: PE is kept by every shared operation and every instruction, so by every step with RESET inactive. -/
theorem stepKeepsProtectedMode : Obligations.StepKeepsProtectedMode :=
  fun _ _ hr hs h => lasting_pe.step hr h hs

end Sys2Proof.Machine
end

section
/-!
The loads of ES, SS and DS. Each instruction ends in `applySreg` with general registers set around it, so
`SregLoaded.of_apply` says what it does to segment registers, memory, tables and hidden state; the general registers are
left to each form.
-/

namespace Sys2Proof.Machine

theorem State.applySreg_tables (s : State) (r : SReg) (sel : Word) : SameTables s (s.applySreg r sel) := by
  obtain ⟨_, _, _, _, htab, _, _⟩ := s.applySreg_field r sel
  exact htab

theorem State.applySreg_hidden (s : State) (r : SReg) (sel : Word) : SameHidden s (s.applySreg r sel) := by
  obtain ⟨_, _, _, _, _, hhid, _⟩ := s.applySreg_field r sel
  exact hhid

theorem State.applySreg_nextIp (s : State) (r : SReg) (sel : Word) : (s.applySreg r sel).nextIp = s.nextIp := by
  simp [State.nextIp]

@[simp] theorem State.applySreg_reg (s : State) (r : SReg) (sel : Word) (q : Reg16) :
    (s.applySreg r sel).reg q = s.reg q := by
  simp [State.reg]

/-! ### The load with IP advanced, whatever general registers it leaves -/

theorem State.applySreg_loads {s : State} (h : Canonical s) {r : SReg} (hr : r ≠ .ss) (sel : Word) (g : Regs) :
    SregLoaded s { s.applySreg r sel with regs := g }.advance r sel :=
  SregLoaded.of_apply h (fun q => by cases q <;> rfl) rfl (s.applySreg_msw r sel) (s.applySreg_tables r sel)
    (by rw [if_neg hr]; exact s.applySreg_hidden r sel) (s.applySreg_flags r sel) (s.applySreg_nextIp r sel)

/-- A load of SS holds off interrupts (10 R72). -/
theorem State.applySreg_loads_ss {s : State} (h : Canonical s) (sel : Word) (g : Regs) :
    SregLoaded s ({ s.applySreg .ss sel with regs := g }.advance.inhibit .ss) .ss sel := by
  obtain ⟨hnmi, hmask, hover, _, hrest⟩ := s.applySreg_hidden .ss sel
  exact SregLoaded.of_apply h (fun q => by cases q <;> rfl) rfl (s.applySreg_msw .ss sel) (s.applySreg_tables .ss sel)
    ⟨hnmi, hmask, hover, rfl, hrest⟩ (s.applySreg_flags .ss sel) (s.applySreg_nextIp .ss sel)

/-! ### The general registers of each form -/

/-- MOV leaves them alone. -/
theorem State.applySreg_sameRegs {s u : State} {r : SReg} {sel : Word} (hu : u.regs = (s.applySreg r sel).regs) :
    SameRegsBut s u [] := fun q _ => by
  rw [State.reg, hu, State.applySreg_regs]; rfl

/-- POP raises SP by 2. -/
theorem State.applySreg_pops {s u : State} {r : SReg} {sel : Word}
    (hu : u.regs = ((s.applySreg r sel).popBytes 2).regs) :
    u.reg .sp = s.reg .sp + 2 ∧ SameRegsBut s u [.sp] := by
  simp only [State.popBytes, State.setReg_regs, State.applySreg_regs, State.applySreg_reg] at hu
  refine ⟨by rw [State.reg, hu, Regs.get_set_same], fun q hq => ?_⟩
  rw [State.reg, hu, Regs.get_set, if_neg (by simpa using hq)]
  rfl

/-- LDS and LES load the register they name. -/
theorem State.applySreg_sets {s u : State} {r : SReg} {sel : Word} {q : Reg16} {v : Word}
    (hu : u.regs = ((s.applySreg r sel).setReg q v).regs) : u.reg q = v ∧ SameRegsBut s u [q] := by
  simp only [State.setReg_regs, State.applySreg_regs] at hu
  refine ⟨by rw [State.reg, hu, Regs.get_set_same], fun p hp => ?_⟩
  rw [State.reg, hu, Regs.get_set, if_neg (by simpa using hp)]
  rfl

/-- Settles O10: MOV, POP, then LDS and LES. A form whose two checks pass ends in the load of its segment register. -/
theorem segmentLoads : Obligations.SegmentLoads := by
  intro s h
  have es (sel : Word) (g : Regs) := State.applySreg_loads h (r := .es) (by decide) sel g
  have ss (sel : Word) (g : Regs) := State.applySreg_loads_ss h sel g
  have ds (sel : Word) (g : Regs) := State.applySreg_loads h (r := .ds) (by decide) sel g
  refine ⟨fun e he => ⟨fun hc => ?_, fun hc => ?_, fun hc => ?_⟩,
    fun hp => ⟨fun hc => ?_, fun hc => ?_, fun hc => ?_⟩, fun r m hm => ⟨fun hc => ?_, fun hc => ?_⟩⟩
  · exact ⟨_, attempt_of_ok (bind_ok.2 ⟨he, hc⟩), es _ _, State.applySreg_sameRegs rfl⟩
  · exact ⟨_, attempt_of_ok (bind_ok.2 ⟨he, hc⟩), ss _ _, State.applySreg_sameRegs rfl⟩
  · exact ⟨_, attempt_of_ok (bind_ok.2 ⟨he, hc⟩), ds _ _, State.applySreg_sameRegs rfl⟩
  · exact ⟨_, attempt_of_ok (bind_ok.2 ⟨hp, hc⟩), es _ _, State.applySreg_pops rfl⟩
  · exact ⟨_, attempt_of_ok (bind_ok.2 ⟨hp, hc⟩), ss _ _, State.applySreg_pops rfl⟩
  · exact ⟨_, attempt_of_ok (bind_ok.2 ⟨hp, hc⟩), ds _ _, State.applySreg_pops rfl⟩
  · exact ⟨_, attempt_of_ok (bind_ok.2 ⟨hm, hc⟩), ds _ _, State.applySreg_sets rfl⟩
  · exact ⟨_, attempt_of_ok (bind_ok.2 ⟨hm, hc⟩), es _ _, State.applySreg_sets rfl⟩

end Sys2Proof.Machine
end

section
/-!
The canonical form of memory through a step. The shared operations keep it (`Kept.canonical`); what is left are the
instructions that load a table register or the machine status word, and the RESET pin: neither touches memory.
-/

namespace Sys2Proof.Machine

theorem Canonical.of_mem_eq {s t : State} (h : Canonical s) (hm : t.mem = s.mem) : Canonical t := by
  unfold Canonical; rw [hm]; exact h

/-- An effect that leaves memory canonical leaves it so whatever exception stands in its place. -/
theorem attempt_canonical {s t u : State} {c : Except Exn Unit} (h : attempt s c t = .next u) (hs : Canonical s)
    (ht : Canonical t) : Canonical u := by
  obtain rfl | ⟨e, rfl⟩ := attempt_cases h
  · exact ht
  · exact (s.raise_kept e).canonical hs

/-- LGDT, LIDT and LMSW load registers (48 R724, R725, R727); the other instructions keep what is shared. -/
theorem exec_keeps_canonical {i : Instr} {s t : State} (h : exec i s = .next t) (hs : Canonical s) : Canonical t := by
  cases hi : loadsSystem i with
  | false => exact (exec_kept hi s t h).canonical hs
  | true =>
    cases i with
    | lgdtM | lidtM | lmswEw => exact attempt_canonical h hs (hs.of_mem_eq rfl)
    | _ => cases hi

theorem lasting_canonical : Lasting Canonical where
  kept k hs := k.canonical hs
  exec := exec_keeps_canonical

/-- With the RESET pin active a step brings the machine into RESET (70 R871). -/
theorem step_of_reset {s : State} (hr : s.env.reset = true) : step s = .next s.inReset := by
  rw [step, State.cycle, if_pos hr]

/-- Settles O56: without RESET the canonical form lasts as any shared property does; RESET leaves memory alone. -/
theorem stepKeepsMemoryCanonical : Obligations.StepKeepsMemoryCanonical := by
  intro s t hs h
  cases hr : s.env.reset with
  | false => exact lasting_canonical.step hr h hs
  | true =>
    rw [step_of_reset hr] at h
    cases h
    exact hs.of_mem_eq rfl

end Sys2Proof.Machine
end

section
/-!
Physical memory (20 R100 to R106): a word reads back from where it was stored, and the A20 mask of Real Address Mode.
-/

namespace Sys2Proof.Machine

/-- A byte that its cell holds is what a read gives, as a store leaves the mapping of addresses alone. -/
theorem HoldsByte.readByte {s t : State} {a : Addr} {v : Byte} (h : HoldsByte s t (s.cell a) v)
    (hr : s.isRom (s.cell a) = false) (hc : t.cell a = s.cell a) : t.readByte a = v := by
  rw [← h hr, ← hc]; rfl

/-- Under the A20 mask an address and its low 20 bits are one bus address (20 R104). -/
theorem State.busAddr_masked {s : State} (hp : s.msw.pe = false) (ha : s.env.a20Mask = true) (a : Addr) :
    s.busAddr (a &&& 0x0FFFFF) = s.busAddr a := by
  simp only [State.busAddr, hp, ha, Bool.not_false, Bool.and_self, if_true, BitVec.and_assoc, BitVec.and_self]

/-- In Protected Mode every address bit counts (20 R104). -/
theorem State.busAddr_protected {s : State} (hp : s.msw.pe = true) (a : Addr) : s.busAddr a = a := by
  simp [State.busAddr, hp]

/-- Settles O60: each byte of the word is held by its cell, so it is what a read of that cell gives. -/
theorem memoryReadsBack : Obligations.MemoryReadsBack := by
  intro s a v h
  obtain ⟨hlo, hhi⟩ := State.writeWord_holds h a v
  refine ⟨fun ra rb => ?_, s.writeWord_frame a v, State.writeWord_wf h a v, fun hp ha => ?_, fun hp => ?_⟩
  · have lo : (s.writeWord a v).readByte a = v.lo := hlo.readByte ra rfl
    have hi : (s.writeWord a v).readByte (a + 1) = v.hi := hhi.readByte rb rfl
    exact ⟨by rw [State.readWord, lo, hi, wordOf_hi_lo], lo, hi⟩
  · rw [State.readByte, State.readByte, State.busAddr_masked hp ha]
  · rw [State.cell, State.busAddr_protected hp]

end Sys2Proof.Machine
end

section
/-!
The checks of a memory access (20 R108 to R115): which of them fails first, and what each of them tests.
-/

namespace Sys2Proof.Machine

/-- The first test that fails decides. -/
theorem State.check_eq (s : State) (r : SReg) (off : Word) (n : Nat) (write : Bool) : s.check r off n write =
    if s.segUsable r = false then .error (s.segFault r)
    else if s.segRights r write = false then .error (.gp 0)
    else if s.inLimit (s.seg r) off n = false then .error (s.segFault r)
    else .ok () := by
  unfold State.check
  cases s.segUsable r with
  | false => rfl
  | true =>
    cases s.segRights r write with
    | false => rfl
    | true => cases s.inLimit (s.seg r) off n <;> rfl

/-! ### Real Address Mode: only the limit is tested -/

section
variable {s : State} (hp : s.msw.pe = false)
include hp

theorem State.segUsable_real (r : SReg) : s.segUsable r = true := by simp [State.segUsable, hp]

theorem State.segRights_real (r : SReg) (write : Bool) : s.segRights r write = true := by simp [State.segRights, hp]

theorem State.segFault_real (r : SReg) : s.segFault r = .gp 0 := by simp [State.segFault, hp]

/-- The last byte lies beyond the limit (20 R111). -/
theorem State.inLimit_real_eq_false (g : Seg) (off : Word) {n : Nat} (hn : 0 < n) :
    s.inLimit g off n = false ↔ off.toNat + n - 1 > g.limit.toNat := by
  simp only [State.inLimit, hp, Bool.false_and, Bool.false_eq_true, if_false, decide_eq_false_iff_not]
  omega

end

/-! ### Protected Mode -/

theorem Seg.expandDown_iff (g : Seg) :
    g.expandDown = true ↔ g.access.getLsbD 3 = false ∧ g.access.getLsbD 2 = true := by
  rw [Seg.expandDown, Bool.and_eq_true, Bool.not_eq_true']

section
variable {s : State} (hp : s.msw.pe = true)
include hp

theorem State.segUsable_protected (r : SReg) : s.segUsable r = (s.seg r).valid := by simp [State.segUsable, hp]

theorem State.segFault_protected (r : SReg) : s.segFault r = if r = .ss then .ss 0 else .gp 0 := by
  simp [State.segFault, hp]

/-- Only data marked writable may be written (20 R113). -/
theorem State.segRights_write_eq_false (r : SReg) : s.segRights r true = false ↔
    ¬((s.seg r).access.getLsbD 3 = false ∧ (s.seg r).access.getLsbD 1 = true) := by
  rw [← Bool.not_eq_true, State.segRights, hp, Bool.not_true, Bool.false_or, if_pos rfl, Seg.writable, Bool.and_eq_true,
    Bool.not_eq_true']

/-- Only code not marked readable may not be read (20 R113). -/
theorem State.segRights_read_eq_false (r : SReg) : s.segRights r false = false ↔
    (s.seg r).access.getLsbD 3 = true ∧ (s.seg r).access.getLsbD 1 = false := by
  rw [State.segRights, hp, Bool.not_true, Bool.false_or, if_neg Bool.false_ne_true, Seg.readable, Bool.or_eq_false_iff,
    Bool.not_eq_false']

/-- Outside an expand-down data segment lie the offsets up to its limit and beyond FFFFH, outside every other segment
those beyond its limit (20 R111, R112). -/
theorem State.inLimit_protected_eq_false (g : Seg) (off : Word) {n : Nat} (hn : 0 < n) : s.inLimit g off n = false ↔
    (g.expandDown = true ∧ (off.toNat ≤ g.limit.toNat ∨ 0xFFFF < off.toNat + n - 1)) ∨
      (¬g.expandDown = true ∧ off.toNat + n - 1 > g.limit.toNat) := by
  rw [State.inLimit, hp, Bool.true_and]
  cases g.expandDown with
  | true =>
    simp only [if_true, Bool.and_eq_false_iff, decide_eq_false_iff_not, true_and, not_true, false_and, or_false]
    omega
  | false =>
    simp only [Bool.false_eq_true, if_false, decide_eq_false_iff_not, false_and, not_false_iff, true_and, false_or]
    omega

end

/-- Settles O59: the tests in their order, each replaced by what it tests in the mode at hand. -/
theorem accessChecks : Obligations.AccessChecks := by
  intro s r off n write hn
  refine ⟨fun hp => ?_, fun hp => ?_⟩
  · simp only [State.check_eq, State.segUsable_real hp, State.segRights_real hp, State.segFault_real hp,
      State.inLimit_real_eq_false hp _ _ hn, Bool.true_eq_false, if_false]
  · have hlim := State.inLimit_protected_eq_false hp (s.seg r) off hn
    rw [Seg.expandDown_iff, and_assoc] at hlim
    rw [State.check_eq, State.segUsable_protected hp, State.segFault_protected hp]
    cases write with
    | true => simp only [State.segRights_write_eq_false hp, hlim, Bool.true_eq_false, true_and, false_and, if_false]
    | false => simp only [State.segRights_read_eq_false hp, hlim, Bool.false_eq_true, true_and, false_and, if_false]

end Sys2Proof.Machine
end

section
/-!
The tests on a selector loaded into SS, DS or ES (21 R191, R192): the first one that fails names the exception.
-/

namespace Sys2Proof.Machine

/-- A test that fails ends the checks, one that passes leaves them to the tests after it. -/
theorem require_bind (c : Bool) (e : Exn) (k : Unit → Except Exn Unit) :
    (require c e >>= k) = if c = false then .error e else k () := by
  cases c <;> rfl

theorem require_eq (c : Bool) (e : Exn) : require c e = if c = false then .error e else .ok () := by
  cases c <;> rfl

/-- Outside an event a selector's error code is the selector without its RPL (60 R781). -/
theorem selCode_not_ext (sel : Word) : selCode sel false = sel &&& 0xFFFC := BitVec.or_zero

/-- The tests for SS in order, at any privilege level and with any exception class (21 R191). -/
theorem State.checkSs_eq (s : State) (sel : Word) (p : BitVec 2) (null : Exn) (bad : Word → Exn) (ext : Bool) :
    s.checkSs sel p null bad ext =
      if selNull sel then .error null
      else if s.inTable sel = false ∨ selRpl sel ≠ p then .error (bad (selCode sel ext))
      else if arWritableData (s.desc sel).access = false ∨ (s.desc sel).dpl ≠ p then .error (bad (selCode sel ext))
      else if (s.desc sel).present = false then .error (.ss (selCode sel ext))
      else .ok () := by
  simp only [State.checkSs, require_bind, Bool.not_eq_false', beq_eq_false_iff_ne, ite_or]
  rw [require_eq]

/-- The privilege rule for DS and ES fails: CPL or RPL exceeds the DPL of a segment that is not conforming
(21 R184, R192 step 3). -/
theorem dataPrivilege_eq_false (conforming : Bool) (p rpl dpl : BitVec 2) :
    (conforming || (decide (p.toNat ≤ dpl.toNat) && decide (rpl.toNat ≤ dpl.toNat))) = false ↔
      conforming = false ∧ (dpl.toNat < p.toNat ∨ dpl.toNat < rpl.toNat) := by
  simp only [Bool.or_eq_false_iff, Bool.and_eq_false_iff, decide_eq_false_iff_not, Nat.not_le]

/-- The tests for DS and ES in order, at any privilege level and with any exception class (21 R192, 47 R694). -/
theorem State.checkData_eq (s : State) (sel : Word) (p : BitVec 2) (bad : Word → Exn) (ext : Bool) :
    s.checkData sel p bad ext =
      if s.inTable sel = false ∨ arReadable (s.desc sel).access = false then .error (bad (selCode sel ext))
      else if arConforming (s.desc sel).access = false ∧
          ((s.desc sel).dpl.toNat < p.toNat ∨ (s.desc sel).dpl.toNat < (selRpl sel).toNat) then
        .error (bad (selCode sel ext))
      else if (s.desc sel).present = false then .error (.np (selCode sel ext))
      else .ok () := by
  simp only [State.checkData, require_bind, dataPrivilege_eq_false, ite_or]
  rw [require_eq]

/-! ### Which tests a load makes (40 R325) -/

theorem State.checkSreg_real {s : State} (hp : s.msw.pe = false) (r : SReg) (sel : Word) :
    s.checkSreg r sel = .ok () := by
  rw [State.checkSreg, hp, Bool.not_false, if_pos rfl]

theorem State.checkSreg_ss {s : State} (hp : s.msw.pe = true) (sel : Word) :
    s.checkSreg .ss sel = s.checkSs sel s.cpl (.gp 0) .gp false := by
  rw [State.checkSreg, hp, Bool.not_true, if_neg Bool.false_ne_true, if_pos rfl]

theorem State.checkSreg_of_ne_ss {s : State} (hp : s.msw.pe = true) {r : SReg} (hr : r ≠ .ss) (sel : Word) :
    s.checkSreg r sel = if selNull sel then .ok () else s.checkData sel s.cpl .gp false := by
  rw [State.checkSreg, hp, Bool.not_true, if_neg Bool.false_ne_true, if_neg hr]

/-- Settles O11: the mode and the register choose the list of tests, each list read in order. -/
theorem selectorTests : Obligations.SelectorTests := by
  refine ⟨fun s r sel hp => State.checkSreg_real hp r sel, fun s sel hp => ?_, fun s r sel hp hr => ?_⟩
  · rw [State.checkSreg_ss hp, State.checkSs_eq, selCode_not_ext]
  · have hss : r ≠ .ss := by rintro rfl; simp at hr
    rw [State.checkSreg_of_ne_ss hp hss, State.checkData_eq, selCode_not_ext]

end Sys2Proof.Machine
end

section
/-!
Encoding (30 R261 to R290): decoding undoes encoding for every instruction, so the bytes written out from the opcode
table decode to their instructions.
-/

namespace Sys2Proof.Laws.RoundTrip

/-- Each row of the opcode table has its own lemma; here they stand in the order of the constructors. -/
theorem decode_encode (i : Instr) : Statement i :=
  Instr.casesOn i
    addEbRb addEwRw addRbEb addRwEw addAlDb addAxDw addEbDb addEwDw addEwDb
    orEbRb orEwRw orRbEb orRwEw orAlDb orAxDw orEbDb orEwDw
    adcEbRb adcEwRw adcRbEb adcRwEw adcAlDb adcAxDw adcEbDb adcEwDw adcEwDb
    sbbEbRb sbbEwRw sbbRbEb sbbRwEw sbbAlDb sbbAxDw sbbEbDb sbbEwDw sbbEwDb
    andEbRb andEwRw andRbEb andRwEw andAlDb andAxDw andEbDb andEwDw
    subEbRb subEwRw subRbEb subRwEw subAlDb subAxDw subEbDb subEwDw subEwDb
    xorEbRb xorEwRw xorRbEb xorRwEw xorAlDb xorAxDw xorEbDb xorEwDw
    cmpEbRb cmpEwRw cmpRbEb cmpRwEw cmpAlDb cmpAxDw cmpEbDb cmpEwDw cmpEwDb
    ud0F incRw decRw pushRw popRw boundRwMd arplEwRw pushDw imulRwEwDw pushDb imulRwEwDb
    joCb jnoCb jbCb jaeCb jeCb jneCb jbeCb jaCb jsCb jnsCb jpCb jnpCb jlCb jgeCb jleCb jgCb
    testEbRb testEwRw xchgEbRb xchgEwRw movEbRb movEwRw movRbEb movRwEw
    movEwEs movEwCs movEwSs movEwDs leaRwM movEsEw movSsEw movDsEw popMw xchgAxRw
    callCd movAlXb movAxXw movXbAl movXwAx testAlDb testAxDw movRbDb movRwDw
    rolEbDb rorEbDb rclEbDb rcrEbDb salEbDb shrEbDb sarEbDb rolEwDb rorEwDb rclEwDb rcrEwDb salEwDb shrEwDb sarEwDb
    rolEb1 rorEb1 rclEb1 rcrEb1 salEb1 shrEb1 sarEb1 rolEw1 rorEw1 rclEw1 rcrEw1 salEw1 shrEw1 sarEw1
    rolEbCl rorEbCl rclEbCl rcrEbCl salEbCl shrEbCl sarEbCl rolEwCl rorEwCl rclEwCl rcrEwCl salEwCl shrEwCl sarEwCl
    retNearDw lesRwEd ldsRwEd movEbDb movEwDw enterDwDb retFarDw intDb
    esc loopneCb loopeCb loopCb jcxzCb inAlDb inAxDb outDbAl outDbAx callCw jmpCw jmpCd jmpCb
    testEbDb notEb negEb mulEb imulEb divEb idivEb testEwDw notEw negEw mulEw imulEw divEw idivEw
    incEb decEb incEw decEw callEw callEd jmpEw jmpMd pushMw
    sldtEw strEw lldtEw ltrEw verrEw verwEw sgdtM sidtM lgdtM lidtM smswEw lmswEw larRwEw lslRwEw
    ud83_1 ud83_4 ud83_6 daa das aaa aas aam aad
    pushEs pushCs pushSs pushDs popEs popSs popDs
    segEs segCs segSs segDs lock repne rep
    pusha popa ud64 ud65 ud66 ud67
    insb insw outsb outsw
    ud82 ud8C_4 ud8C_5 ud8C_6 ud8C_7 ud8E_1 ud8E_4 ud8E_5 ud8E_6 ud8E_7
    gp8F_1 gp8F_2 gp8F_3 gp8F_4 gp8F_5 gp8F_6 gp8F_7
    nop cbw cwd wait pushf popf sahf lahf
    movsb movsw cmpsb cmpsw stosb stosw lodsb lodsw scasb scasw
    udC0_6 udC1_6 udD0_6 udD1_6 udD2_6 udD3_6
    retNear
    udC6_1 udC6_2 udC6_3 udC6_4 udC6_5 udC6_6 udC6_7
    udC7_1 udC7_2 udC7_3 udC7_4 udC7_5 udC7_6 udC7_7
    leave retFar int3 into iret udD6 xlatb
    inAlDx inAxDx outDxAl outDxAx
    udF1 hlt cmc udF6_1 udF7_1
    clc stc cli sti cld std
    udFE_2 udFE_3 udFE_4 udFE_5 udFE_6 udFE_7 gpFF_7 ud0F00_6 ud0F00_7 ud0F01_5 ud0F01_7 clts
    repInsb repInsw repMovsb repMovsw repOutsb repOutsw repStosb repStosw repLodsb repLodsw
    repeCmpsb repeCmpsw repeScasb repeScasw repneCmpsb repneCmpsw repneScasb repneScasw

/-- Settles O51: the row of the instruction decides which operands the parser finds again. -/
theorem decodeUndoesEncode : Obligations.DecodeUndoesEncode := decode_encode

/-- Bytes that the encoder writes for a well-formed instruction decode to it, with nothing left over. -/
theorem decode_eq_of_encode_eq {i : Instr} {bs : List Byte} (hw : i.wf = true) (he : encode i = bs) :
    decode bs = .ok (i, []) := by
  rw [← he, ← List.append_nil (encode i)]
  exact decode_encode i hw [] fun _ => rfl

/-- Settles O52: each list of bytes is what the encoder writes for its instruction. -/
theorem writtenBytesDecode : Obligations.WrittenBytesDecode := by
  unfold Obligations.WrittenBytesDecode
  and_intros <;> exact decode_eq_of_encode_eq rfl rfl

end Sys2Proof.Laws.RoundTrip
end

section
/-!
The exceptions of the invalid encodings (30 R268, R287, R288), and what a prefix latches (30 R262, R275).
-/

namespace Sys2Proof.Machine

/-! ### Invalid encodings -/

theorem exec_of_mem_udRows (s : State) : ∀ i ∈ udRows, exec i s = .next (s.raise .ud) := by
  intro i hi
  fin_cases hi <;> rfl

theorem exec_of_mem_gpRows (s : State) : ∀ i ∈ gpRows, exec i s = .next (s.raise (.gp 0)) := by
  intro i hi
  fin_cases hi <;> rfl

/-- In each form the check that the operand is in memory stands first, as `checkM` or as `checkIsMem` (30 R268), and a
register fails it before anything of the state is read. -/
theorem exec_of_mem_regOfMemForms (s : State) (r q : Reg16) :
    ∀ i ∈ regOfMemForms r q, exec i s = .next (s.raise .ud) := by
  intro i hi
  fin_cases hi <;> rfl

/-- Real Address Mode does not recognise the instructions of Protected Mode (30 R287). -/
theorem State.checkPm_real {s : State} (hp : s.msw.pe = false) : s.checkPm = .error .ud := by
  rw [State.checkPm, require_eq, if_pos hp]

/-- A meaning whose first check fails takes that exception, whatever checks follow. -/
theorem attempt_bind_of_error {s t : State} {c : Except Exn Unit} {k : Unit → Except Exn Unit} {x : Exn}
    (h : c = .error x) : attempt s (c >>= k) t = .next (s.raise x) :=
  attempt_of_error (by rw [h]; rfl)

/-- In each form the check of the mode stands first. -/
theorem exec_of_mem_protectedOnly {s : State} (hp : s.msw.pe = false) (r : Reg16) (e : Ew) :
    ∀ i ∈ protectedOnly r e, exec i s = .next (s.raise .ud) := by
  intro i hi
  fin_cases hi <;> exact attempt_bind_of_error (State.checkPm_real hp)

/-- Settles O49: the rows that are always invalid, then the forms whose first check fails. -/
theorem invalidEncodings : Obligations.InvalidEncodings := fun s =>
  ⟨exec_of_mem_udRows s, fun _ => rfl, exec_of_mem_gpRows s, exec_of_mem_regOfMemForms s, exec_of_mem_protectedOnly⟩

/-! ### Prefixes -/

/-- An instruction that replaces `cur` alone changes nothing else. -/
theorem Ends.of_latch {i : Instr} {s : State} {c : Cur} (h : exec i s = .next { s with cur := c }) :
    Ends i s fun t => WroteNothing s t ∧ t.flags = s.flags ∧ t.ip = s.ip ∧ SameSystem { s with cur := c } t :=
  ⟨_, h, ⟨fun _ _ => rfl, fun _ _ => rfl⟩, rfl, rfl, SameSystem.refl _⟩

/-- Settles O50: the four segment overrides, the two repeat prefixes and LOCK each replace `cur` alone. -/
theorem prefixesLatch : Obligations.PrefixesLatch := fun _ =>
  ⟨.of_latch rfl, .of_latch rfl, .of_latch rfl, .of_latch rfl, .of_latch rfl, .of_latch rfl, .of_latch rfl⟩

end Sys2Proof.Machine
end

section
/-!
Data movement (40 R320 to R350): MOV and XCHG of registers and memory, PUSH and POP, LEA, XLATB, CBW and CWD. Each form
ends in one shared operation with IP advanced: an operand written, a word pushed, or two registers written one after the
other.
-/

namespace Sys2Proof.Machine

/-! ### One operand written -/

theorem State.putEb_nextIp (s : State) (e : Eb) (v : Byte) : (s.putEb e v).nextIp = s.nextIp := by
  simp [State.nextIp]

theorem State.putEw_nextIp (s : State) (e : Ew) (v : Word) : (s.putEw e v).nextIp = s.nextIp := by
  simp [State.nextIp]

theorem MovesEb.of_next {i : Instr} {s : State} (h : Canonical s) {e : Eb} {v : Byte}
    (he : exec i s = .next (s.putEb e v).advance) : MovesEb i s e v :=
  EndsEb.of_next h he rfl rfl (s.putEb_flags e v) (s.putEb_nextIp e v) (s.putEb_sameSystem e v)

theorem MovesEw.of_next {i : Instr} {s : State} (h : Canonical s) {e : Ew} {v : Word}
    (he : exec i s = .next (s.putEw e v).advance) : MovesEw i s e v :=
  EndsEw.of_next h he rfl rfl (s.putEw_flags e v) (s.putEw_nextIp e v) (s.putEw_sameSystem e v)

/-- An instruction whose check passes and whose effect is to write one byte operand copies to it. -/
theorem MovesEb.of_attempt {i : Instr} {s : State} (h : Canonical s) {c : Except Exn Unit} {e : Eb} {v : Byte}
    (hc : c = .ok ()) (he : exec i s = attempt s c (s.putEb e v).advance) : MovesEb i s e v :=
  .of_next h (he.trans (attempt_of_ok hc))

/-- The same for a word operand. -/
theorem MovesEw.of_attempt {i : Instr} {s : State} (h : Canonical s) {c : Except Exn Unit} {e : Ew} {v : Word}
    (hc : c = .ok ()) (he : exec i s = attempt s c (s.putEw e v).advance) : MovesEw i s e v :=
  .of_next h (he.trans (attempt_of_ok hc))

/-- A sign that fills the upper word extends a word to a double word (41 R397). -/
theorem signFill_append (w : Word) : (if w.msb then (0xFFFF : Word) else 0) ++ w = w.signExtend 32 :=
  (BitVec.signExtend_eq_append_of_le (by decide)).symm

/-- Settles O13: LEA and XLATB copy to a register, CBW and CWD copy to AX and DX a word that extends the sign. -/
theorem leaXlatCbwCwd : Obligations.LeaXlatCbwCwd := by
  intro s h
  refine ⟨fun r m => .of_next h rfl, fun hc => .of_attempt h hc rfl,
    ⟨sext16 (s.reg8 .al), .of_next h rfl, ?_⟩, ⟨if (s.reg .ax).msb then 0xFFFF else 0, .of_next h rfl, ?_⟩⟩
  · exact BitVec.toInt_signExtend_of_le (by decide)
  · rw [signFill_append]
    exact BitVec.toInt_signExtend_of_le (by decide)

/-- Settles O8: a form that stores checks its operand for writing, one that loads a register checks it for reading, and
a form without memory checks nothing. -/
theorem movForms : Obligations.MovForms := by
  intro s h
  refine ⟨fun e r hc => .of_attempt h hc rfl, fun r e hc => .of_attempt h hc rfl, fun e b hc => .of_attempt h hc rfl,
    fun r b => .of_next h rfl, fun o hc => .of_attempt h hc rfl, fun o hc => .of_attempt h hc rfl,
    fun e r hc => .of_attempt h hc rfl, fun r e hc => .of_attempt h hc rfl, fun e w hc => .of_attempt h hc rfl,
    fun r w => .of_next h rfl, fun o hc => .of_attempt h hc rfl, fun o hc => .of_attempt h hc rfl, fun e hc => ?_⟩
  exact ⟨.of_attempt h hc rfl, .of_attempt h hc rfl, .of_attempt h hc rfl, .of_attempt h hc rfl⟩

/-! ### The stack -/

theorem PushesWord.of_pushVal {i : Instr} {s : State} (h : Canonical s) (hp : s.checkPush = .ok ()) {v : Word}
    (he : exec i s = pushVal s v) : PushesWord i s v :=
  ⟨_, he.trans (attemptIn_of_ok hp), State.push_effect h v, rfl, rfl, SameSystem.refl s⟩

theorem State.memWord_zero (s : State) (m : MemRef) : s.memWord (.mem m) 0 = s.getEw (.mem m) :=
  congrArg (s.peek16 (s.memSeg m)) (BitVec.add_zero (s.ea m))

/-- A readable memory word is pushed like any other. -/
theorem pushMem_of_ok {s : State} {m : MemRef} (hm : s.checkMem m 2 false = .ok ()) :
    pushMem s (.mem m) = pushVal s (s.getEw (.mem m)) := by
  rw [pushMem, State.checkM, hm, ← State.memWord_zero]

/-- Every register but the two that were written is the same. -/
theorem State.setReg_setReg_reg_ne (s : State) {p q r : Reg16} (hq : p ≠ q) (hr : p ≠ r) (v w : Word) :
    ((s.setReg q v).setReg r w).reg p = s.reg p := by
  rw [State.setReg_reg_ne _ hr, State.setReg_reg_ne _ hq]

/-- POP raises SP, then writes its register; SP itself is left with the word popped (log 26). -/
theorem popRw_ends {s : State} (hp : s.checkPop = .ok ()) (r : Reg16) : Ends (.popRw r) s fun t =>
    t.reg r = s.stackWord 0 ∧ (r ≠ .sp → t.reg .sp = s.reg .sp + 2) ∧ SameRegsBut s t [r, .sp] ∧ SameMemory s t ∧
      t.flags = s.flags ∧ t.ip = s.nextIp ∧ SameSystem s t := by
  refine ⟨_, attempt_of_ok hp, State.setReg_reg_same .., fun hr => ?_, fun p hpr => ?_, fun _ _ => rfl, rfl, rfl,
    SameSystem.refl s⟩
  · exact (State.setReg_reg_ne _ hr.symm _).trans (State.setReg_reg_same ..)
  · obtain ⟨hr, hsp⟩ : p ≠ r ∧ p ≠ .sp := by simpa using hpr
    exact s.setReg_setReg_reg_ne hsp hr _ _

/-- POP of a memory word stores it, then raises SP; the store leaves the registers alone. -/
theorem popMw_ends {s : State} (h : Canonical s) (hp : s.checkPop = .ok ()) {m : MemRef}
    (hm : s.checkMem m 2 true = .ok ()) : Ends (.popMw (.mem m)) s fun t =>
    HoldsWord s t (s.memAddr m) (s.stackWord 0) ∧ SameMemoryBut s t (s.wordCells (s.memAddr m)) ∧
      t.reg .sp = s.reg .sp + 2 ∧ SameRegsBut s t [.sp] ∧ t.flags = s.flags ∧ t.ip = s.nextIp ∧ SameSystem s t := by
  obtain ⟨hword, -, hmem⟩ := State.putEw_effect h (.mem m) (s.stackWord 0)
  obtain ⟨hsp, hregs, -⟩ := (s.putEw (.mem m) (s.stackWord 0)).setReg_effect .sp (s.reg .sp + 2)
  exact ⟨_, attempt_of_ok (bind_ok.2 ⟨rfl, bind_ok.2 ⟨hp, hm⟩⟩), hword, hmem, hsp, hregs, rfl, rfl, SameSystem.refl s⟩

/-- Settles O9: each PUSH is the shared push of its word, read before SP changes. -/
theorem pushPopForms : Obligations.PushPopForms := by
  intro s h
  refine ⟨fun hp => ?_, fun hp => ⟨popRw_ends hp, fun m hm => popMw_ends h hp hm⟩⟩
  have push {i : Instr} {v : Word} (he : exec i s = pushVal s v) : PushesWord i s v := .of_pushVal h hp he
  exact ⟨push rfl, push rfl, push rfl, push rfl, fun r => push rfl, fun m hm => push (pushMem_of_ok hm),
    fun w => push rfl, fun b => push rfl, push rfl⟩

/-! ### Exchanges -/

/-- Two word registers, which may be one, written each with what the other held: the effect of `execXchgEwRw` on two
registers and of `execXchgAxRw`. -/
def State.exchange (s : State) (q r : Reg16) : State := (s.setReg q (s.reg r)).setReg r (s.reg q)

/-- The same for byte registers: the effect of `execXchgEbRb` on two registers. -/
def State.exchange8 (s : State) (q r : Reg8) : State := (s.setReg8 q (s.reg8 r)).setReg8 r (s.reg8 q)

theorem exec_xchgEwRw_reg (s : State) (q r : Reg16) :
    exec (.xchgEwRw (.reg q) r) s = .next (s.exchange q r).advance := rfl

theorem exec_xchgAxRw (s : State) (r : Reg16) : exec (.xchgAxRw r) s = .next (s.exchange .ax r).advance := rfl

theorem exec_xchgEbRb_reg (s : State) (q r : Reg8) :
    exec (.xchgEbRb (.reg q) r) s = .next (s.exchange8 q r).advance := rfl

theorem State.exchange_regs (s : State) (q r : Reg16) :
    (s.exchange q r).reg q = s.reg r ∧ (s.exchange q r).reg r = s.reg q ∧ SameRegsBut s (s.exchange q r) [q, r] := by
  refine ⟨?_, State.setReg_reg_same .., fun p hp => ?_⟩
  · by_cases hqr : q = r
    · rw [State.exchange, hqr, State.setReg_reg_same]
    · rw [State.exchange, State.setReg_reg_ne _ hqr, State.setReg_reg_same]
  · obtain ⟨hq, hr⟩ : p ≠ q ∧ p ≠ r := by simpa using hp
    exact s.setReg_setReg_reg_ne hq hr _ _

/-- The word registers without byte halves are out of reach of a byte register write. -/
theorem State.setReg8_sameRegs (s : State) (r : Reg8) (v : Byte) :
    SameRegsBut s (s.setReg8 r v) [.ax, .cx, .dx, .bx] := by
  obtain ⟨-, ⟨-, hregs⟩, -⟩ := s.setReg8_effect r v
  exact hregs

/-- The other byte registers are kept, the other halves of the same words among them. -/
theorem State.exchange8_regs (s : State) (q r : Reg8) :
    (s.exchange8 q r).reg8 q = s.reg8 r ∧ (s.exchange8 q r).reg8 r = s.reg8 q ∧
      (∀ p, p ≠ q → p ≠ r → (s.exchange8 q r).reg8 p = s.reg8 p) ∧
      SameRegsBut s (s.exchange8 q r) [.ax, .cx, .dx, .bx] := by
  refine ⟨?_, State.setReg8_reg8_same .., fun p hq hr => ?_, fun p hp => ?_⟩
  · by_cases hqr : q = r
    · rw [State.exchange8, hqr, State.setReg8_reg8_same]
    · rw [State.exchange8, State.setReg8_reg8_ne _ hqr, State.setReg8_reg8_same]
  · rw [State.exchange8, State.setReg8_reg8_ne _ hr, State.setReg8_reg8_ne _ hq]
  · exact (State.setReg8_sameRegs _ r _ p hp).trans (s.setReg8_sameRegs q _ p hp)

/-- Settles O12: of two registers the second write puts back what the first one replaced; with memory, the register is
written after the store, which leaves registers alone. -/
theorem exchangeForms : Obligations.ExchangeForms := by
  intro s h
  refine ⟨fun q r => ?_, fun m r hc => ?_, fun q r => ?_, fun m r hc => ?_, fun r => ?_⟩
  · obtain ⟨hq, hr, hothers, hwords⟩ := s.exchange8_regs q r
    exact ⟨_, exec_xchgEbRb_reg s q r, hq, hr, hothers, hwords, fun _ _ => rfl, rfl, rfl, SameSystem.refl s⟩
  · obtain ⟨hbyte, -, hmem⟩ := State.putEb_effect h (.mem m) (s.reg8 r)
    obtain ⟨hr, hregs, -⟩ := (s.putEb (.mem m) (s.reg8 r)).setReg8_effect r (s.getEb (.mem m))
    exact ⟨_, attempt_of_ok hc, hbyte, hmem, hr, hregs, rfl, rfl, SameSystem.refl s⟩
  · obtain ⟨hq, hr, hothers⟩ := s.exchange_regs q r
    exact ⟨_, exec_xchgEwRw_reg s q r, hq, hr, hothers, fun _ _ => rfl, rfl, rfl, SameSystem.refl s⟩
  · obtain ⟨hword, -, hmem⟩ := State.putEw_effect h (.mem m) (s.reg r)
    obtain ⟨hr, hregs, -⟩ := (s.putEw (.mem m) (s.reg r)).setReg_effect r (s.getEw (.mem m))
    exact ⟨_, attempt_of_ok hc, hword, hmem, hr, hregs, rfl, rfl, SameSystem.refl s⟩
  · obtain ⟨hax, hr, hothers⟩ := s.exchange_regs .ax r
    exact ⟨_, exec_xchgAxRw s r, hax, hr, hothers, fun _ _ => rfl, rfl, rfl, SameSystem.refl s⟩

end Sys2Proof.Machine
end

section
/-!
Addition and subtraction (41 R380 to R388). Every form but those of CMP is the shared read-modify-write of its operand,
so what its function computes (`addF_says`, `subF_says`) is what the form does.
-/

namespace Sys2Proof.Machine

/-! ### ADD, ADC, SUB, SBB and CMP -/

/-- Settles O1: what `Add` and `Sub` say at every width, for the two widths of an operand. -/
theorem addAndSubFlagFunctions : Obligations.AddAndSubFlagFunctions :=
  ⟨fun a b c f => ⟨addF_says (by decide) a b c f, subF_says (by decide) a b c f⟩,
    fun a b c f => ⟨addF_says (by decide) a b c f, subF_says (by decide) a b c f⟩⟩

section
variable {i : Instr} {s : State}

/-- A read-modify-write by `Add` adds to its operand. -/
theorem AddsEb.of_rmw (h : Canonical s) {e : Eb} {f : Byte → Flags → Byte × Flags} {b : Byte} {c : Bool}
    (he : exec i s = .next (s.rmwEb e f).advance) (hf : f (s.getEb e) s.flags = addF (s.getEb e) b c s.flags) :
    AddsEb i s e b c :=
  ⟨_, .of_rmw h (.inl he) (hf ▸ addF_says (by decide) ..)⟩

theorem AddsEw.of_rmw (h : Canonical s) {e : Ew} {f : Word → Flags → Word × Flags} {b : Word} {c : Bool}
    (he : exec i s = .next (s.rmwEw e f).advance) (hf : f (s.getEw e) s.flags = addF (s.getEw e) b c s.flags) :
    AddsEw i s e b c :=
  ⟨_, .of_rmw h (.inl he) (hf ▸ addF_says (by decide) ..)⟩

/-- A read-modify-write by `Sub` subtracts from its operand. -/
theorem SubsEb.of_rmw (h : Canonical s) {e : Eb} {f : Byte → Flags → Byte × Flags} {b : Byte} {c : Bool}
    (he : exec i s = .next (s.rmwEb e f).advance) (hf : f (s.getEb e) s.flags = subF (s.getEb e) b c s.flags) :
    SubsEb i s e b c :=
  ⟨_, .of_rmw h (.inl he) (hf ▸ subF_says (by decide) ..)⟩

theorem SubsEw.of_rmw (h : Canonical s) {e : Ew} {f : Word → Flags → Word × Flags} {b : Word} {c : Bool}
    (he : exec i s = .next (s.rmwEw e f).advance) (hf : f (s.getEw e) s.flags = subF (s.getEw e) b c s.flags) :
    SubsEw i s e b c :=
  ⟨_, .of_rmw h (.inl he) (hf ▸ subF_says (by decide) ..)⟩

/-- An instruction that sets the flags of a difference and stores nothing compares. -/
theorem Compares.of_next {n : Nat} (hn : 0 < n) {a b : BitVec n}
    (he : exec i s = .next (s.setFlags (subF a b false s.flags).2).advance) : Compares i s a b :=
  ⟨_, .of_next (.inl he) (subF_says hn a b false s.flags)⟩

end

/-- Settles O2: ADD adds no carry, ADC the old CF. A form whose destination may be in memory checks it to write, where
ADC names the state of a failed check itself; one whose source may be there checks it for reading; the accumulator forms
check nothing. -/
theorem addAdcComplete : Obligations.AddAdcComplete := by
  intro s h
  exact
    ⟨fun e r hc => ⟨.of_rmw h (attempt_of_ok hc) rfl, .of_rmw h (attemptIn_of_ok hc) rfl⟩,
      fun e r hc => ⟨.of_rmw h (attempt_of_ok hc) rfl, .of_rmw h (attemptIn_of_ok hc) rfl⟩,
      fun r e hc => ⟨.of_rmw h (attempt_of_ok hc) rfl, .of_rmw h (attempt_of_ok hc) rfl⟩,
      fun r e hc => ⟨.of_rmw h (attempt_of_ok hc) rfl, .of_rmw h (attempt_of_ok hc) rfl⟩,
      fun b => ⟨.of_rmw h rfl rfl, .of_rmw h rfl rfl⟩,
      fun w => ⟨.of_rmw h rfl rfl, .of_rmw h rfl rfl⟩,
      fun e b hc => ⟨.of_rmw h (attempt_of_ok hc) rfl, .of_rmw h (attemptIn_of_ok hc) rfl⟩,
      fun e w hc => ⟨.of_rmw h (attempt_of_ok hc) rfl, .of_rmw h (attemptIn_of_ok hc) rfl⟩,
      fun e b hc => ⟨.of_rmw h (attempt_of_ok hc) rfl, .of_rmw h (attemptIn_of_ok hc) rfl⟩⟩

/-- Settles O3: SUB subtracts no borrow, SBB the old CF, with the checks of ADD and ADC. -/
theorem subSbbComplete : Obligations.SubSbbComplete := by
  intro s h
  exact
    ⟨fun e r hc => ⟨.of_rmw h (attempt_of_ok hc) rfl, .of_rmw h (attemptIn_of_ok hc) rfl⟩,
      fun e r hc => ⟨.of_rmw h (attempt_of_ok hc) rfl, .of_rmw h (attemptIn_of_ok hc) rfl⟩,
      fun r e hc => ⟨.of_rmw h (attempt_of_ok hc) rfl, .of_rmw h (attempt_of_ok hc) rfl⟩,
      fun r e hc => ⟨.of_rmw h (attempt_of_ok hc) rfl, .of_rmw h (attempt_of_ok hc) rfl⟩,
      fun b => ⟨.of_rmw h rfl rfl, .of_rmw h rfl rfl⟩,
      fun w => ⟨.of_rmw h rfl rfl, .of_rmw h rfl rfl⟩,
      fun e b hc => ⟨.of_rmw h (attempt_of_ok hc) rfl, .of_rmw h (attemptIn_of_ok hc) rfl⟩,
      fun e w hc => ⟨.of_rmw h (attempt_of_ok hc) rfl, .of_rmw h (attemptIn_of_ok hc) rfl⟩,
      fun e b hc => ⟨.of_rmw h (attempt_of_ok hc) rfl, .of_rmw h (attemptIn_of_ok hc) rfl⟩⟩

/-- Settles O4: CMP checks its operand for reading in every form that may name memory. -/
theorem compareCompletes : Obligations.CompareCompletes := by
  intro s
  have byte {i : Instr} {a b : Byte} (he : exec i s = .next (s.setFlags (subF a b false s.flags).2).advance) :
      Compares i s a b := .of_next (by decide) he
  have word {i : Instr} {a b : Word} (he : exec i s = .next (s.setFlags (subF a b false s.flags).2).advance) :
      Compares i s a b := .of_next (by decide) he
  exact
    ⟨fun e r hc => byte (attempt_of_ok hc), fun e r hc => word (attempt_of_ok hc),
      fun r e hc => byte (attempt_of_ok hc), fun r e hc => word (attempt_of_ok hc),
      fun b => byte rfl, fun w => word rfl,
      fun e b hc => byte (attempt_of_ok hc), fun e w hc => word (attempt_of_ok hc),
      fun e b hc => word (attempt_of_ok hc)⟩

/-! ### INC, DEC and NEG -/

/-- INC computes the sum with 1 and puts CF back (41 R386). -/
theorem incF_says {n : Nat} (hn : 0 < n) (a : BitVec n) (f : Flags) :
    ButCarry f (incF a f).2 fun k => AddSays a 1 false f k (incF a f).1 :=
  ⟨rfl, (addF a 1 false f).2.cf, addF_says hn a 1 false f⟩

/-- DEC computes the difference with 1 and puts CF back (41 R387). -/
theorem decF_says {n : Nat} (hn : 0 < n) (a : BitVec n) (f : Flags) :
    ButCarry f (decF a f).2 fun k => SubSays a 1 false f k (decF a f).1 :=
  ⟨rfl, (subF a 1 false f).2.cf, subF_says hn a 1 false f⟩

/-- NEG borrows unless the operand is 0 (41 R388). -/
theorem negF_says {n : Nat} (hn : 0 < n) (a : BitVec n) (f : Flags) :
    SubSays 0 a false f (negF a f).2 (negF a f).1 ∧ ((negF a f).2.cf = false ↔ a = 0) := by
  refine ⟨subF_says hn 0 a false f, ?_⟩
  have hcf : (negF a f).2.cf = decide (0 < a.toNat) := by simp [negF, subF]
  rw [hcf, decide_eq_false_iff_not, Nat.pos_iff_ne_zero, not_not, ← BitVec.toNat_inj]
  simp

/-- Settles O5: each form is the shared read-modify-write; a word register needs no check. -/
theorem incDecNegComplete : Obligations.IncDecNegComplete := by
  intro s h
  refine ⟨fun r => ⟨?_, ?_⟩, fun e hc => ⟨?_, ?_, ?_⟩, fun e hc => ⟨?_, ?_, ?_⟩⟩
  · exact ⟨_, .of_rmw h (.inl rfl) (incF_says (by decide) ..)⟩
  · exact ⟨_, .of_rmw h (.inl rfl) (decF_says (by decide) ..)⟩
  · exact ⟨_, .of_rmw h (.inl (attempt_of_ok hc)) (incF_says (by decide) ..)⟩
  · exact ⟨_, .of_rmw h (.inl (attempt_of_ok hc)) (decF_says (by decide) ..)⟩
  · exact ⟨_, .of_rmw h (.inl (attempt_of_ok hc)) (negF_says (by decide) ..)⟩
  · exact ⟨_, .of_rmw h (.inl (attempt_of_ok hc)) (incF_says (by decide) ..)⟩
  · exact ⟨_, .of_rmw h (.inl (attempt_of_ok hc)) (decF_says (by decide) ..)⟩
  · exact ⟨_, .of_rmw h (.inl (attempt_of_ok hc)) (negF_says (by decide) ..)⟩

end Sys2Proof.Machine
end

section
/-!
Multiplication and division (41 R390 to R394). The product is computed at twice the width, where it is exact, and its
flag says whether the upper half adds anything; a division answers or takes interrupt 0. AX, DX or the register named
is written.
-/

namespace Sys2Proof.Machine

/-! ### Products and their flags -/

/-- The product of two numbers fits twice their width. -/
theorem toNat_ofNat_mul {n : Nat} (a b : BitVec n) :
    (BitVec.ofNat (n * 2) (a.toNat * b.toNat)).toNat = a.toNat * b.toNat := by
  rw [BitVec.toNat_ofNat, Nat.mod_eq_of_lt BitVec.toNat_mul_toNat_lt]

/-- MUL's test (41 R390): the upper half is 0 when the number fits the lower half. -/
theorem upperHalf_eq_zero_iff {n : Nat} (p : BitVec (n + n)) : p.extractLsb' n n = 0 ↔ p.toNat < 2 ^ n := by
  have hp : p.toNat / 2 ^ n < 2 ^ n := Nat.div_lt_of_lt_mul (by rw [← pow_add]; exact p.isLt)
  have hu : (p.extractLsb' n n).toNat = p.toNat / 2 ^ n := by
    rw [BitVec.extractLsb'_toNat, Nat.shiftRight_eq_div_pow, Nat.mod_eq_of_lt hp]
  rw [← BitVec.toNat_inj, hu]
  simp

/-- The product of two signed numbers fits twice their width. -/
theorem fitsSigned_mul {n : Nat} (hn : 0 < n) (a b : BitVec n) : FitsSigned (n + n) (a.toInt * b.toInt) := by
  have hle : a.toInt * b.toInt ≤ 2 ^ (n * 2 - 2) := BitVec.toInt_mul_toInt_le
  have hge : -2 ^ (n * 2 - 2) ≤ a.toInt * b.toInt := BitVec.le_toInt_mul_toInt
  have h2 : (2 : Int) ^ (n + n - 1) = 2 * 2 ^ (n * 2 - 2) := by rw [← pow_succ']; congr 1; omega
  have hpos : (0 : Int) < 2 ^ (n * 2 - 2) := by positivity
  constructor <;> omega

theorem toInt_ofInt_of_fits {n : Nat} (hn : 0 < n) {x : Int} (h : FitsSigned n x) : (BitVec.ofInt n x).toInt = x :=
  BitVec.toInt_ofInt_eq_self hn h.1 h.2

theorem toInt_fits {n : Nat} (x : BitVec n) : FitsSigned n x.toInt := ⟨x.le_toInt, BitVec.toInt_lt⟩

/-- IMUL's test (41 R391): a number is the sign extension of its lower part when it fits that part. -/
theorem eq_signExtend_setWidth_iff {n m : Nat} (hn : 0 < n) (hnm : n ≤ m) (p : BitVec m) :
    p = (p.setWidth n).signExtend m ↔ FitsSigned n p.toInt := by
  have hlow : p.setWidth n = BitVec.ofInt n p.toInt := by
    rw [← BitVec.signExtend_eq_setWidth_of_le p hnm, BitVec.signExtend]
  rw [← BitVec.toInt_inj, BitVec.toInt_signExtend_of_le hnm, hlow]
  exact ⟨fun h => h ▸ toInt_fits _, fun h => (toInt_ofInt_of_fits hn h).symm⟩

/-- CF and OF both say that the product does not fit, and the control flags are kept (41 R390 to R392). -/
def ProductFlags (fits : Prop) (f g : Flags) : Prop := (g.cf = true ↔ ¬fits) ∧ g.of = g.cf ∧ SameControlFlags f g

theorem mulFlags_says (d : Nat) (f : Flags) {big : Bool} {fits : Prop} (h : big = true ↔ ¬fits) :
    ProductFlags fits f (mulFlags d big f) := ⟨h, rfl, rfl, rfl, rfl, rfl, rfl⟩

theorem mul8_says (d : Nat) (a b : Byte) (f : Flags) :
    ProductFlags (a.toNat * b.toNat < 2 ^ 8) f (mul8 d a b f).2 ∧ (mul8 d a b f).1.toNat = a.toNat * b.toNat := by
  have hv : (mul8 d a b f).1.toNat = a.toNat * b.toNat := toNat_ofNat_mul a b
  have hfit := upperHalf_eq_zero_iff (n := 8) (mul8 d a b f).1
  rw [hv] at hfit
  exact ⟨mulFlags_says d f (bne_iff_ne.trans (not_congr hfit)), hv⟩

theorem mul16_says (d : Nat) (a b : Word) (f : Flags) :
    ProductFlags (a.toNat * b.toNat < 2 ^ 16) f (mul16 d a b f).2 ∧
      ((mul16 d a b f).1.1 ++ (mul16 d a b f).1.2).toNat = a.toNat * b.toNat := by
  have hv : (BitVec.ofNat (16 + 16) (a.toNat * b.toNat)).toNat = a.toNat * b.toNat := toNat_ofNat_mul a b
  have hfit := upperHalf_eq_zero_iff (BitVec.ofNat (16 + 16) (a.toNat * b.toNat))
  rw [hv] at hfit
  exact ⟨mulFlags_says d f (bne_iff_ne.trans (not_congr hfit)),
    (congrArg BitVec.toNat BitVec.extractLsb'_append_extractLsb').trans hv⟩

theorem imul8_says (d : Nat) (a b : Byte) (f : Flags) :
    ProductFlags (FitsSigned 8 (a.toInt * b.toInt)) f (imul8 d a b f).2 ∧
      (imul8 d a b f).1.toInt = a.toInt * b.toInt := by
  have hv : (imul8 d a b f).1.toInt = a.toInt * b.toInt :=
    toInt_ofInt_of_fits (by decide) (fitsSigned_mul (by decide) a b)
  have hfit := eq_signExtend_setWidth_iff (n := 8) (by decide) (by decide) (imul8 d a b f).1
  rw [hv] at hfit
  exact ⟨mulFlags_says d f (bne_iff_ne.trans (not_congr hfit)), hv⟩

theorem imul16_says (d : Nat) (a b : Word) (f : Flags) :
    ProductFlags (FitsSigned 16 (a.toInt * b.toInt)) f (imul16 d a b f).2 ∧
      ((imul16 d a b f).1.1 ++ (imul16 d a b f).1.2).toInt = a.toInt * b.toInt := by
  have hv : (BitVec.ofInt (16 + 16) (a.toInt * b.toInt)).toInt = a.toInt * b.toInt :=
    toInt_ofInt_of_fits (by decide) (fitsSigned_mul (by decide) a b)
  have hfit := eq_signExtend_setWidth_iff (n := 16) (by decide) (by decide) (BitVec.ofInt (16 + 16) (a.toInt * b.toInt))
  rw [hv, BitVec.setWidth_eq_extractLsb' (by decide)] at hfit
  exact ⟨mulFlags_says d f (bne_iff_ne.trans (not_congr hfit)),
    (congrArg BitVec.toInt BitVec.extractLsb'_append_extractLsb').trans hv⟩

theorem imul3_says (d : Nat) (a b : Word) (f : Flags) :
    ProductFlags (FitsSigned 16 (a.toInt * b.toInt)) f (imul3 d a b f).2 := by
  refine mulFlags_says d f ?_
  simp only [FitsSigned, Bool.not_eq_true', Bool.and_eq_false_iff, decide_eq_false_iff_not]
  omega

/-! ### MUL and IMUL -/

section
variable {i : Instr} {s : State} {fits : Prop} {P : State → Prop}

/-- A multiplication that writes one word register. -/
theorem Multiplies.of_setReg {r : Reg16} {x : Word × Flags}
    (he : exec i s = .next ((s.setReg r x.1).setFlags x.2).advance.drawn) (hx : ProductFlags fits s.flags x.2)
    (hP : ∀ t : State, t.reg r = x.1 → P t) : Multiplies i s [r] fits P := by
  obtain ⟨hcf, hof, hctl⟩ := hx
  obtain ⟨hreg, hregs, -⟩ := s.setReg_effect r x.1
  exact ⟨_, he, hP _ hreg, hcf, hof, hctl, hregs, fun _ _ => rfl, rfl, SameSystem.refl s⟩

/-- A multiplication that writes DX:AX. -/
theorem Multiplies.of_setDxAxF {x : (Word × Word) × Flags} (he : exec i s = .next (s.setDxAxF x).advance.drawn)
    (hx : ProductFlags fits s.flags x.2) (hP : ∀ t : State, t.reg .dx ++ t.reg .ax = x.1.1 ++ x.1.2 → P t) :
    Multiplies i s [.dx, .ax] fits P := by
  obtain ⟨hcf, hof, hctl⟩ := hx
  refine ⟨_, he, hP _ rfl, hcf, hof, hctl, fun q hq => ?_, fun _ _ => rfl, rfl, SameSystem.refl s⟩
  obtain ⟨hdx, hax⟩ : q ≠ .dx ∧ q ≠ .ax := by simpa using hq
  exact s.setReg_setReg_reg_ne hdx hax _ _

end

/-- Settles O14: the flags and the product of each form are those of its multiplication; a byte immediate is extended
first, which keeps its value. -/
theorem multiplyForms : Obligations.MultiplyForms := by
  intro s
  refine ⟨fun e hc => ⟨?_, ?_⟩, fun e hc => ⟨?_, ?_, fun r w => ?_, fun r b => ?_⟩⟩
  · obtain ⟨hf, hv⟩ := mul8_says s.draw (s.reg8 .al) (s.getEb e) s.flags
    exact .of_setReg (attempt_of_ok hc) hf fun t ht => by rw [ht, hv]
  · obtain ⟨hf, hv⟩ := imul8_says s.draw (s.reg8 .al) (s.getEb e) s.flags
    exact .of_setReg (attempt_of_ok hc) hf fun t ht => by rw [ht, hv]
  · obtain ⟨hf, hv⟩ := mul16_says s.draw (s.reg .ax) (s.getEw e) s.flags
    exact .of_setDxAxF (attempt_of_ok hc) hf fun t ht => by rw [ht, hv]
  · obtain ⟨hf, hv⟩ := imul16_says s.draw (s.reg .ax) (s.getEw e) s.flags
    exact .of_setDxAxF (attempt_of_ok hc) hf fun t ht => by rw [ht, hv]
  · exact .of_setReg (attempt_of_ok hc) (imul3_says ..) fun t ht => ht
  · have hb : (sext16 b).toInt = b.toInt := BitVec.toInt_signExtend_of_le (by decide)
    rw [← hb]
    exact .of_setReg (attempt_of_ok hc) (imul3_says ..) fun t ht => ht

/-! ### Quotients and remainders -/

/-- Unsigned division answers when its quotient fits; the remainder, below the divisor, always does (41 R393). -/
theorem divU_says {w n : Nat} {m : BitVec w} (hm : m.toNat ≠ 0) (hq : n / m.toNat < 2 ^ w) :
    ∃ q r : BitVec w, divU w n m.toNat = some (q, r) ∧ q.toNat = n / m.toNat ∧ r.toNat = n % m.toNat := by
  have hr : n % m.toNat < 2 ^ w := (Nat.mod_lt n (Nat.pos_of_ne_zero hm)).trans m.isLt
  refine ⟨_, _, by rw [divU, if_neg hm, if_neg (Nat.not_le.2 hq)], ?_, ?_⟩
  · rw [BitVec.toNat_ofNat, Nat.mod_eq_of_lt hq]
  · rw [BitVec.toNat_ofNat, Nat.mod_eq_of_lt hr]

theorem divU_eq_none {w n m : Nat} (h : m = 0 ∨ 2 ^ w ≤ n / m) : divU w n m = none := by
  rw [divU, ← ite_or, if_pos h]

/-- A remainder is smaller than its divisor, so it fits where the divisor does. -/
theorem fitsSigned_tmod {w : Nat} (n : Int) {m : BitVec w} (hm : m.toInt ≠ 0) : FitsSigned w (n.tmod m.toInt) := by
  obtain ⟨hlo, hhi⟩ := toInt_fits m
  have hlt : (n.tmod m.toInt).natAbs < m.toInt.natAbs := by
    rw [Int.natAbs_tmod]
    exact Nat.mod_lt _ (Int.natAbs_pos.2 hm)
  constructor <;> omega

theorem toInt_eq_zero_iff {n : Nat} (x : BitVec n) : x.toInt = 0 ↔ x.toNat = 0 := by
  have hx := x.isLt
  rw [BitVec.toInt_eq_toNat_cond]
  split <;> omega

/-- Signed division answers when its quotient fits (41 R394). -/
theorem divS_says {w : Nat} (hw : 0 < w) {n : Int} {m : BitVec w} (hm : m.toNat ≠ 0)
    (hq : FitsSigned w (n.tdiv m.toInt)) :
    ∃ q r : BitVec w, divS w n m.toInt = some (q, r) ∧ q.toInt = n.tdiv m.toInt ∧ r.toInt = n.tmod m.toInt := by
  have hm' : m.toInt ≠ 0 := mt (toInt_eq_zero_iff m).1 hm
  have hout : ¬(n.tdiv m.toInt < -(2 ^ (w - 1)) ∨ 2 ^ (w - 1) ≤ n.tdiv m.toInt) := by
    obtain ⟨hlo, hhi⟩ := hq
    omega
  exact ⟨_, _, by rw [divS, if_neg hm', if_neg hout], toInt_ofInt_of_fits hw hq,
    toInt_ofInt_of_fits hw (fitsSigned_tmod n hm')⟩

theorem divS_eq_none {w : Nat} {n : Int} {m : BitVec w} (h : m.toNat = 0 ∨ ¬FitsSigned w (n.tdiv m.toInt)) :
    divS w n m.toInt = none := by
  have h' : m.toInt = 0 ∨ n.tdiv m.toInt < -(2 ^ (w - 1)) ∨ 2 ^ (w - 1) ≤ n.tdiv m.toInt := by
    refine h.imp (toInt_eq_zero_iff m).2 fun hfit => ?_
    rw [FitsSigned] at hfit
    omega
  rw [divS, ← ite_or, if_pos h']

/-! ### DIV and IDIV -/

section
variable {i : Instr} {s : State} {c : Except Exn Unit} {P : State → Prop}

/-- A division of AX that answers leaves the quotient in AL and the remainder in AH. -/
theorem Divides.of_putDiv8 {x : Option (Byte × Byte)} {q r : Byte} (hc : c = .ok ()) (hx : x = some (q, r))
    (he : exec i s = attempt s (do c; require x.isSome .de) (s.putDiv8 x).advance.drawn)
    (hP : ∀ t : State, t.reg8 .al = q → t.reg8 .ah = r → P t) : Divides i s [.ax] P := by
  subst hc hx
  obtain ⟨hax, hregs, -⟩ := s.setReg_effect .ax (wordOf r q)
  have hal : Word.lo ((s.setReg .ax (wordOf r q)).reg .ax) = q := by rw [hax, lo_wordOf]
  have hah : Word.hi ((s.setReg .ax (wordOf r q)).reg .ax) = r := by rw [hax, hi_wordOf]
  exact ⟨_, he, hP _ hal hah, ⟨rfl, rfl, rfl, rfl, rfl⟩, hregs, fun _ _ => rfl, rfl, SameSystem.refl s⟩

/-- A division of DX:AX that answers leaves the quotient in AX and the remainder in DX. -/
theorem Divides.of_putDiv16 {x : Option (Word × Word)} {q r : Word} (hc : c = .ok ()) (hx : x = some (q, r))
    (he : exec i s = attempt s (do c; require x.isSome .de) (s.putDiv16 x).advance.drawn)
    (hP : ∀ t : State, t.reg .ax = q → t.reg .dx = r → P t) : Divides i s [.dx, .ax] P := by
  subst hc hx
  refine ⟨_, he, hP _ rfl rfl, ⟨rfl, rfl, rfl, rfl, rfl⟩, fun p hp => ?_, fun _ _ => rfl, rfl, SameSystem.refl s⟩
  obtain ⟨hdx, hax⟩ : p ≠ .dx ∧ p ≠ .ax := by simpa using hp
  exact s.setReg_setReg_reg_ne hax hdx _ _

/-- A division without an answer takes interrupt 0. -/
theorem exec_eq_raise_de {α : Type} {x : Option α} {t : State} (hc : c = .ok ()) (hx : x = none)
    (he : exec i s = attempt s (do c; require x.isSome .de) t) : exec i s = .next (s.raise .de) := by
  subst hc hx
  exact he

end

/-- Settles O15: each form divides by `divU` or `divS` after the check of its operand; what these answer decides between
the result and interrupt 0. -/
theorem divideForms : Obligations.DivideForms := by
  intro s
  refine ⟨fun e hc hm => ⟨fun hq => ?_, fun hq => ?_⟩, fun e hc hm => ⟨fun hq => ?_, fun hq => ?_⟩,
    fun e hc => ⟨fun h => ?_, fun h => ?_⟩, fun e hc => ⟨fun h => ?_, fun h => ?_⟩⟩
  · obtain ⟨q, r, hx, hquot, hrem⟩ := divU_says hm hq
    exact .of_putDiv8 hc hx rfl fun t hal hah => by rw [hal, hah]; exact ⟨hquot, hrem⟩
  · obtain ⟨q, r, hx, hquot, hrem⟩ := divS_says (by decide) hm hq
    exact .of_putDiv8 hc hx rfl fun t hal hah => by rw [hal, hah]; exact ⟨hquot, hrem⟩
  · obtain ⟨q, r, hx, hquot, hrem⟩ := divU_says hm hq
    exact .of_putDiv16 hc hx rfl fun t hax hdx => by rw [hax, hdx]; exact ⟨hquot, hrem⟩
  · obtain ⟨q, r, hx, hquot, hrem⟩ := divS_says (by decide) hm hq
    exact .of_putDiv16 hc hx rfl fun t hax hdx => by rw [hax, hdx]; exact ⟨hquot, hrem⟩
  · exact exec_eq_raise_de hc (divU_eq_none h) rfl
  · exact exec_eq_raise_de hc (divS_eq_none h) rfl
  · exact exec_eq_raise_de hc (divU_eq_none h) rfl
  · exact exec_eq_raise_de hc (divS_eq_none h) rfl

end Sys2Proof.Machine
end

section
/-!
Decimal adjustment (41 R400 to R405). DAA and DAS are one computation that adds different bytes, and so are AAA and AAS:
modulo 256 a subtraction adds the complement.
-/

namespace Sys2Proof.Machine

/-- A register replaced by a function of it and FLAGS that draws its undefined flags: all of it. -/
theorem EndsEb.of_rmw_reg {i : Instr} {s : State} {r : Reg8} {f : Byte → Flags → Byte × Flags} {F : Flags → Prop}
    (he : exec i s = .next (s.rmwEb (.reg r) f).advance.drawn) (hF : F (f (s.reg8 r) s.flags).2) :
    EndsEb i s (.reg r) (f (s.reg8 r) s.flags).1 F :=
  ⟨_, he, (s.setReg8_effect r _).congr rfl rfl, hF, rfl, SameSystem.refl s⟩

theorem EndsEw.of_rmw_reg {i : Instr} {s : State} {r : Reg16} {f : Word → Flags → Word × Flags} {F : Flags → Prop}
    (he : exec i s = .next (s.rmwEw (.reg r) f).advance.drawn) (hF : F (f (s.reg r) s.flags).2) :
    EndsEw i s (.reg r) (f (s.reg r) s.flags).1 F :=
  ⟨_, he, (s.setReg_effect r _).congr rfl rfl, hF, rfl, SameSystem.refl s⟩

/-- The low digit of AL needs adjustment (41 R400 to R403). -/
def LowOut (al : Nat) (f : Flags) : Prop := 9 < al % 16 ∨ f.af = true

theorem lowDigitOut_iff (al : Byte) (f : Flags) : lowDigitOut al f = true ↔ LowOut al.toNat f := by
  simp [lowDigitOut, LowOut]

/-- A byte to which `k` is added under a condition. -/
def addIf (c : Bool) (k x : Byte) : Byte := if c then x + k else x

theorem addIf_toNat {c : Bool} {p : Prop} (h : c = true ↔ p) (k x : Byte) :
    (p → (addIf c k x).toNat = (x.toNat + k.toNat) % 256) ∧ (¬p → (addIf c k x).toNat = x.toNat) := by
  refine ⟨fun hp => ?_, fun hp => ?_⟩
  · rw [addIf, if_pos (h.2 hp), BitVec.toNat_add]
  · rw [addIf, if_neg (mt h.1 hp)]

/-- The two steps of DAA and DAS: the flags, and the values after the first and the second step (41 R400, R401). -/
def PackedSays (k₁ k₂ : Nat) (al : Byte) (f g : Flags) (v : Byte) : Prop :=
  ∃ a1, (LowOut al.toNat f → a1 = (al.toNat + k₁) % 256) ∧ (¬LowOut al.toNat f → a1 = al.toNat) ∧
    (0x9F < a1 ∨ f.cf = true → v.toNat = (a1 + k₂) % 256) ∧ (¬(0x9F < a1 ∨ f.cf = true) → v.toNat = a1) ∧
    (g.af = true ↔ LowOut al.toNat f) ∧ (g.cf = true ↔ 0x9F < a1 ∨ f.cf = true) ∧
    ResultFlags g v ∧ SameControlFlags f g

/-- DAA and DAS differ in what they add: DAS adds the complements of 6 and 60H. -/
def packedF (k₁ k₂ : Byte) (d : Nat) (al : Byte) (f : Flags) : Byte × Flags :=
  let al1 := addIf (lowDigitOut al f) k₁ al
  let highOut := decide (0x9F < al1.toNat) || f.cf
  let al2 := addIf highOut k₂ al1
  (al2, { f.szp al2 with af := lowDigitOut al f, cf := highOut, of := Config.freeFlag d .of })

theorem packedF_says (k₁ k₂ : Byte) (d : Nat) (al : Byte) (f : Flags) :
    PackedSays k₁.toNat k₂.toNat al f (packedF k₁ k₂ d al f).2 (packedF k₁ k₂ d al f).1 := by
  have hlow := lowDigitOut_iff al f
  have hhigh : (decide (0x9F < (addIf (lowDigitOut al f) k₁ al).toNat) || f.cf) = true ↔
      0x9F < (addIf (lowDigitOut al f) k₁ al).toNat ∨ f.cf = true := by simp
  obtain ⟨hadd1, hkeep1⟩ := addIf_toNat hlow k₁ al
  obtain ⟨hadd2, hkeep2⟩ := addIf_toNat hhigh k₂ (addIf (lowDigitOut al f) k₁ al)
  exact ⟨_, hadd1, hkeep1, hadd2, hkeep2, hlow, hhigh, szp_result f (packedF k₁ k₂ d al f).1, szp_control f al⟩

/-- Modulo 256 a subtraction is the addition of the complement. -/
theorem ite_sub_eq_addIf (c : Bool) (k x : Byte) : (if c then x - k else x) = addIf c (-k) x := by
  rw [addIf, BitVec.sub_eq_add_neg]

theorem daaF_eq_packedF : daaF = packedF 6 0x60 := rfl

theorem dasF_eq_packedF : dasF = packedF (-6) (-0x60) := by
  funext d al f
  simp only [dasF, packedF, ite_sub_eq_addIf]

/-- Settles O16: DAA adds 6 and 60H, DAS their complements 250 and 160. -/
theorem decimalAdjustPacked : Obligations.DecimalAdjustPacked := by
  intro s
  refine ⟨rfl, rfl, ⟨_, .of_rmw_reg rfl ?_⟩, ⟨_, .of_rmw_reg rfl ?_⟩⟩
  · rw [daaF_eq_packedF]
    exact packedF_says 6 0x60 s.draw (s.reg8 .al) s.flags
  · rw [dasF_eq_packedF]
    exact packedF_says (-6) (-0x60) s.draw (s.reg8 .al) s.flags

/-- AAA and AAS differ in what they add to AL and AH (41 R402, R403). -/
def unpackedF (k₁ k₂ : Byte) (d : Nat) (ax : Word) (f : Flags) : Word × Flags :=
  let out := lowDigitOut ax.lo f
  (wordOf (addIf out k₂ ax.hi) (addIf out k₁ ax.lo &&& 0x0F), asciiFlags d out f)

theorem aaaF_eq_unpackedF : aaaF = unpackedF 6 1 := rfl

theorem aasF_eq_unpackedF : aasF = unpackedF (-6) (-1) := by
  funext d ax f
  simp only [aasF, unpackedF, ite_sub_eq_addIf]

/-- What AAA and AAS say of AX and FLAGS (41 R402, R403). -/
def UnpackedSays (k₁ k₂ : Nat) (al ah : Byte) (f g : Flags) (v : Word) : Prop :=
  (LowOut al.toNat f → v.lo.toNat = (al.toNat + k₁) % 16 ∧ v.hi.toNat = (ah.toNat + k₂) % 256) ∧
    (¬LowOut al.toNat f → v.lo.toNat = al.toNat % 16 ∧ v.hi.toNat = ah.toNat) ∧
    (g.af = true ↔ LowOut al.toNat f) ∧ (g.cf = true ↔ LowOut al.toNat f) ∧ SameControlFlags f g

theorem lowNibble_toNat (x : Byte) : (x &&& 0x0F).toNat = x.toNat % 16 := by
  rw [BitVec.toNat_and]
  exact Nat.and_two_pow_sub_one_eq_mod x.toNat 4

theorem unpackedF_says (k₁ k₂ : Byte) (d : Nat) (ax : Word) (f : Flags) :
    UnpackedSays k₁.toNat k₂.toNat ax.lo ax.hi f (unpackedF k₁ k₂ d ax f).2 (unpackedF k₁ k₂ d ax f).1 := by
  have hlow := lowDigitOut_iff ax.lo f
  obtain ⟨hadd1, hkeep1⟩ := addIf_toNat hlow k₁ ax.lo
  obtain ⟨hadd2, hkeep2⟩ := addIf_toNat hlow k₂ ax.hi
  refine ⟨fun hl => ?_, fun hl => ?_, hlow, hlow, rfl, rfl, rfl, rfl, rfl⟩
  · rw [unpackedF, lo_wordOf, hi_wordOf, lowNibble_toNat, hadd1 hl, hadd2 hl]
    exact ⟨Nat.mod_mod_of_dvd _ (by decide), rfl⟩
  · rw [unpackedF, lo_wordOf, hi_wordOf, lowNibble_toNat, hkeep1 hl, hkeep2 hl]
    exact ⟨rfl, rfl⟩

/-- SF, ZF and PF after AAM and AAD describe AL (92 D22). -/
theorem aaxFlags_says (d : Nat) (al : Byte) (f : Flags) :
    ResultFlags (aaxFlags d al f) al ∧ SameControlFlags f (aaxFlags d al f) :=
  ⟨szp_result f al, rfl, rfl, rfl, rfl, rfl⟩

/-- AAM divides AL by 10 (41 R404). -/
theorem aamF_says (d : Nat) (ax : Word) (f : Flags) :
    (aamF d ax f).1.hi.toNat = ax.lo.toNat / 10 ∧ (aamF d ax f).1.lo.toNat = ax.lo.toNat % 10 ∧
      ResultFlags (aamF d ax f).2 (aamF d ax f).1.lo ∧ SameControlFlags f (aamF d ax f).2 := by
  have hal := ax.lo.isLt
  rw [aamF, hi_wordOf, lo_wordOf, BitVec.toNat_ofNat, BitVec.toNat_ofNat]
  exact ⟨by omega, by omega, aaxFlags_says d _ f⟩

/-- AAD adds ten times AH to AL and clears AH (41 R405). -/
theorem aadF_says (d : Nat) (ax : Word) (f : Flags) :
    (aadF d ax f).1.hi = 0 ∧ (aadF d ax f).1.lo.toNat = (ax.lo.toNat + 10 * ax.hi.toNat) % 256 ∧
      ResultFlags (aadF d ax f).2 (aadF d ax f).1.lo ∧ SameControlFlags f (aadF d ax f).2 := by
  rw [aadF, hi_wordOf, lo_wordOf, BitVec.toNat_ofNat]
  exact ⟨rfl, rfl, aaxFlags_says d _ f⟩

/-- Settles O17: each form replaces AX and FLAGS by its function of them; AL and AH are the halves of AX. -/
theorem decimalAdjustUnpacked : Obligations.DecimalAdjustUnpacked := by
  intro s
  refine ⟨⟨_, .of_rmw_reg rfl ?_⟩, ⟨_, .of_rmw_reg rfl ?_⟩, ⟨_, .of_rmw_reg rfl ?_⟩, ⟨_, .of_rmw_reg rfl ?_⟩⟩
  · rw [aaaF_eq_unpackedF]
    exact unpackedF_says 6 1 s.draw (s.reg .ax) s.flags
  · rw [aasF_eq_unpackedF]
    exact unpackedF_says (-6) (-1) s.draw (s.reg .ax) s.flags
  · exact aamF_says s.draw (s.reg .ax) s.flags
  · exact aadF_says s.draw (s.reg .ax) s.flags

end Sys2Proof.Machine
end

section
/-!
Logic (42 R440 to R445). AND, OR and XOR are the shared read-modify-write by a function whose flags are those of its
result (`logicF_says`); TEST keeps only the flags; NOT keeps the flags and complements its operand.
-/

namespace Sys2Proof.Machine

section
variable {i : Instr} {s : State}

/-- A read-modify-write whose check passes and whose flags are those of a logical result leaves that result. -/
theorem LogicEb.of_attempt (h : Canonical s) {c : Except Exn Unit} {e : Eb} {f : Byte → Flags → Byte × Flags}
    {v : Byte} (hc : c = .ok ()) (he : exec i s = attempt s c (s.rmwEb e f).advance.drawn)
    (hf : f (s.getEb e) s.flags = (v, logicF s.draw v s.flags)) : LogicEb i s e v := by
  have hends := EndsEb.of_rmw (F := LogicSays v s.flags) h (.inr (he.trans (attempt_of_ok hc))) (hf ▸ logicF_says ..)
  rwa [hf] at hends

theorem LogicEw.of_attempt (h : Canonical s) {c : Except Exn Unit} {e : Ew} {f : Word → Flags → Word × Flags}
    {v : Word} (hc : c = .ok ()) (he : exec i s = attempt s c (s.rmwEw e f).advance.drawn)
    (hf : f (s.getEw e) s.flags = (v, logicF s.draw v s.flags)) : LogicEw i s e v := by
  have hends := EndsEw.of_rmw (F := LogicSays v s.flags) h (.inr (he.trans (attempt_of_ok hc))) (hf ▸ logicF_says ..)
  rwa [hf] at hends

/-- An instruction that sets the flags of a logical result and stores nothing tests. -/
theorem Tests.of_next {n : Nat} {r : BitVec n}
    (he : exec i s = .next (s.setFlags (logicF s.draw r s.flags)).advance.drawn) : Tests i s r :=
  EndsFlags.of_next (.inr he) (logicF_says ..)

end

/-- Settles O6: AND, OR and XOR in each form. A form whose destination may be in memory checks it to write, one whose
source may be there checks it to read; the accumulator forms have no check to pass. -/
theorem logicCompletes : Obligations.LogicCompletes := by
  intro s h
  exact
    ⟨fun e r hc => ⟨.of_attempt h hc rfl rfl, .of_attempt h hc rfl rfl, .of_attempt h hc rfl rfl⟩,
      fun e r hc => ⟨.of_attempt h hc rfl rfl, .of_attempt h hc rfl rfl, .of_attempt h hc rfl rfl⟩,
      fun r e hc => ⟨.of_attempt h hc rfl rfl, .of_attempt h hc rfl rfl, .of_attempt h hc rfl rfl⟩,
      fun r e hc => ⟨.of_attempt h hc rfl rfl, .of_attempt h hc rfl rfl, .of_attempt h hc rfl rfl⟩,
      fun b => ⟨.of_attempt h rfl rfl rfl, .of_attempt h rfl rfl rfl, .of_attempt h rfl rfl rfl⟩,
      fun w => ⟨.of_attempt h rfl rfl rfl, .of_attempt h rfl rfl rfl, .of_attempt h rfl rfl rfl⟩,
      fun e b hc => ⟨.of_attempt h hc rfl rfl, .of_attempt h hc rfl rfl, .of_attempt h hc rfl rfl⟩,
      fun e w hc => ⟨.of_attempt h hc rfl rfl, .of_attempt h hc rfl rfl, .of_attempt h hc rfl rfl⟩⟩

/-- NOT inverts every bit of its operand and keeps FLAGS (42 R445). -/
theorem notEb_moves {s : State} (h : Canonical s) {e : Eb} (hc : s.checkEb e true = .ok ()) :
    MovesEb (.notEb e) s e (s.getEb e ^^^ 0xFF) := by
  have hexec : exec (.notEb e) s = .next (s.rmwEb e fun a f => (~~~a, f)).advance := attempt_of_ok hc
  have hnot : s.getEb e ^^^ 0xFF = ~~~s.getEb e := BitVec.xor_allOnes
  rw [hnot]
  exact EndsEb.of_rmw h (.inl hexec) rfl

theorem notEw_moves {s : State} (h : Canonical s) {e : Ew} (hc : s.checkEw e true = .ok ()) :
    MovesEw (.notEw e) s e (s.getEw e ^^^ 0xFFFF) := by
  have hexec : exec (.notEw e) s = .next (s.rmwEw e fun a f => (~~~a, f)).advance := attempt_of_ok hc
  have hnot : s.getEw e ^^^ 0xFFFF = ~~~s.getEw e := BitVec.xor_allOnes
  rw [hnot]
  exact EndsEw.of_rmw h (.inl hexec) rfl

/-- Settles O7: the six forms of TEST, then the two of NOT, which alone write their operand. -/
theorem testNotComplete : Obligations.TestNotComplete := by
  intro s
  exact
    ⟨fun e r hc => .of_next (attempt_of_ok hc), fun e r hc => .of_next (attempt_of_ok hc),
      fun b => .of_next rfl, fun w => .of_next rfl,
      fun e b hc => .of_next (attempt_of_ok hc), fun e w hc => .of_next (attempt_of_ok hc),
      fun h e hc => notEb_moves h hc, fun h e hc => notEw_moves h hc⟩

end Sys2Proof.Machine
end

section
/-!
Shifts and rotates (42 R448 to R456). A count of 0 leaves the operand and FLAGS as they were; any other repeats the
kind's single step, and rotates and shifts differ in the flags they write besides CF and OF.
-/

namespace Sys2Proof.Machine

/-- The function of the kind on an operand and FLAGS: the one each of its six forms applies. -/
def ShiftKind.fn {n : Nat} : ShiftKind → Nat → Nat → BitVec n → Flags → BitVec n × Flags
  | .rol => rolF | .ror => rorF | .rcl => rclF | .rcr => rcrF
  | .sal => salF | .shr => shrF | .sar => sarF

/-- A count of 0 changes nothing, FLAGS included (92 D23). -/
theorem shiftSays_zero {n : Nat} (k : ShiftKind) (x : BitVec n) (f : Flags) : ShiftSays k 0 x f f x where
  value := rfl
  carry := rfl
  zero _ := rfl
  single h := absurd h (by decide)
  control := ⟨rfl, rfl, rfl, rfl, rfl⟩
  shift h := absurd rfl h
  rotate _ := ⟨rfl, rfl, rfl, rfl⟩

section
variable {n : Nat} {k : ShiftKind} {one : BitVec n × Bool → BitVec n × Bool → Bool} (hone : one = k.overflow)
  (count d : Nat) (x : BitVec n) (f : Flags)
include hone

/-- A rotate writes CF and OF (42 R449). -/
theorem rotateF_says (hk : k.isShift = false) :
    ShiftSays k count x f (rotateF k.step one count d x f).2 (rotateF k.step one count d x f).1 := by
  subst hone
  by_cases hc : count = 0
  · subst hc
    exact shiftSays_zero k x f
  · rw [rotateF, if_neg hc]
    exact {
      value := rfl
      carry := rfl
      zero := fun h => absurd h hc
      single := fun h => if_pos h
      control := ⟨rfl, rfl, rfl, rfl, rfl⟩
      shift := fun _ h => absurd (hk.symm.trans h) (by decide)
      rotate := fun _ => ⟨rfl, rfl, rfl, rfl⟩ }

/-- A shift writes SF, ZF and PF too, and AF is undefined (42 R449). -/
theorem shiftF_says (hk : k.isShift = true) :
    ShiftSays k count x f (shiftF k.step one count d x f).2 (shiftF k.step one count d x f).1 := by
  subst hone
  by_cases hc : count = 0
  · subst hc
    exact shiftSays_zero k x f
  · rw [shiftF, if_neg hc]
    exact {
      value := rfl
      carry := rfl
      zero := fun h => absurd h hc
      single := fun h => if_pos h
      control := szp_control f x
      shift := fun _ _ => szp_result f _
      rotate := fun h => absurd (h.symm.trans hk) (by decide) }

end

/-- Each kind is a rotate or a shift by its own step, with the OF of that step. -/
theorem ShiftKind.fn_says {n : Nat} (k : ShiftKind) (count d : Nat) (x : BitVec n) (f : Flags) :
    ShiftSays k count x f (k.fn count d x f).2 (k.fn count d x f).1 := by
  cases k with
  | rol | ror | rcl | rcr => exact rotateF_says rfl count d x f rfl
  | sal => exact shiftF_says (by funext o y; exact Bool.xor_comm ..) count d x f rfl
  | shr | sar => exact shiftF_says rfl count d x f rfl

/-! ### The six forms of a kind -/

section
variable {s : State} (k : ShiftKind)

/-- A rotate by 1 leaves no flag undefined, so only the shifts draw. -/
theorem exec_byteOne {e : Eb} (hc : s.checkEb e true = .ok ()) :
    exec (k.byteOne e) s = .next (s.rmwEb e (k.fn 1 s.draw)).advance ∨
      exec (k.byteOne e) s = .next (s.rmwEb e (k.fn 1 s.draw)).advance.drawn := by
  cases k with
  | rol | ror => exact .inl (attempt_of_ok hc)
  | rcl | rcr => exact .inl (attemptIn_of_ok hc)
  | sal | shr | sar => exact .inr (attempt_of_ok hc)

theorem exec_wordOne {e : Ew} (hc : s.checkEw e true = .ok ()) :
    exec (k.wordOne e) s = .next (s.rmwEw e (k.fn 1 s.draw)).advance ∨
      exec (k.wordOne e) s = .next (s.rmwEw e (k.fn 1 s.draw)).advance.drawn := by
  cases k with
  | rol | ror => exact .inl (attempt_of_ok hc)
  | rcl | rcr => exact .inl (attemptIn_of_ok hc)
  | sal | shr | sar => exact .inr (attempt_of_ok hc)

/-- RCL and RCR name the state of a failed check themselves, which a check that passes does not reach. -/
theorem exec_byteCl {e : Eb} (hc : s.checkEb e true = .ok ()) :
    exec (k.byteCl e) s = .next (s.rmwEb e (k.fn (maskCount (s.reg8 .cl)) s.draw)).advance.drawn := by
  cases k with
  | rcl | rcr => exact attemptIn_of_ok hc
  | rol | ror | sal | shr | sar => exact attempt_of_ok hc

theorem exec_wordCl {e : Ew} (hc : s.checkEw e true = .ok ()) :
    exec (k.wordCl e) s = .next (s.rmwEw e (k.fn (maskCount (s.reg8 .cl)) s.draw)).advance.drawn := by
  cases k with
  | rcl | rcr => exact attemptIn_of_ok hc
  | rol | ror | sal | shr | sar => exact attempt_of_ok hc

theorem exec_byteImm {e : Eb} (hc : s.checkEb e true = .ok ()) (b : Byte) :
    exec (k.byteImm e b) s = .next (s.rmwEb e (k.fn (maskCount b) s.draw)).advance.drawn := by
  cases k with
  | rcl | rcr => exact attemptIn_of_ok hc
  | rol | ror | sal | shr | sar => exact attempt_of_ok hc

theorem exec_wordImm {e : Ew} (hc : s.checkEw e true = .ok ()) (b : Byte) :
    exec (k.wordImm e b) s = .next (s.rmwEw e (k.fn (maskCount b) s.draw)).advance.drawn := by
  cases k with
  | rcl | rcr => exact attemptIn_of_ok hc
  | rol | ror | sal | shr | sar => exact attempt_of_ok hc

end

/-- Settles O18: each form is the read-modify-write by the function of its kind. -/
theorem shiftRotateForms : Obligations.ShiftRotateForms := by
  intro s k h
  refine ⟨fun e hc => ⟨?_, ?_, fun b => ?_⟩, fun e hc => ⟨?_, ?_, fun b => ?_⟩⟩
  · exact ⟨_, .of_rmw h (exec_byteOne k hc) (k.fn_says ..)⟩
  · exact ⟨_, .of_rmw h (.inr (exec_byteCl k hc)) (k.fn_says ..)⟩
  · exact ⟨_, .of_rmw h (.inr (exec_byteImm k hc b)) (k.fn_says ..)⟩
  · exact ⟨_, .of_rmw h (exec_wordOne k hc) (k.fn_says ..)⟩
  · exact ⟨_, .of_rmw h (.inr (exec_wordCl k hc)) (k.fn_says ..)⟩
  · exact ⟨_, .of_rmw h (.inr (exec_wordImm k hc b)) (k.fn_says ..)⟩

end Sys2Proof.Machine
end

section
/-!
Repeated steps add up (42 R450 to R456). One step of each kind is a shift or rotation by one place, of the operand or,
for RCL and RCR, of CF and the operand joined; shifts and rotations by `c` and by one compose.
-/

namespace Sys2Proof.Machine

/-! ### Repeating a step -/

/-- Where a step takes the `c`-th value of a row to the next one whatever CF was, `c` steps reach the `c`-th value, with
the CF of the last step. -/
theorem repeat_eq {α β : Type} {stp : α × β → α × β} {x : α} {y : ℕ → α} {cf : ℕ → β} (hx : y 0 = x)
    (hstp : ∀ c d, stp (y c, d) = (y (c + 1), cf (c + 1))) (d : β) :
    ∀ {c : ℕ}, 0 < c → Nat.repeat stp c (x, d) = (y c, cf c)
  | 1, _ => hx ▸ hstp 0 d
  | c + 2, _ => by rw [Nat.repeat, repeat_eq hx hstp d c.succ_pos, hstp]

/-- Where a step takes a view of the state to the next value of a row, `c` steps take it to the `c`-th. -/
theorem view_repeat {α β : Type} {stp : α → α} {view : α → β} {y : ℕ → β}
    (hstp : ∀ p c, view p = y c → view (stp p) = y (c + 1)) {p : α} (hp : view p = y 0) :
    ∀ c, view (Nat.repeat stp c p) = y c
  | 0 => hp
  | c + 1 => hstp _ c (view_repeat hstp hp c)

/-! ### Rotations compose -/

theorem rotateLeft_zero {n : ℕ} (x : BitVec n) : x.rotateLeft 0 = x := by
  refine BitVec.eq_of_getMsbD_eq fun i hi => ?_
  rw [BitVec.getMsbD_rotateLeft, Nat.zero_add, Nat.mod_eq_of_lt hi, decide_eq_true hi, Bool.true_and]

theorem rotateLeft_add {n : ℕ} (x : BitVec n) (a b : ℕ) : x.rotateLeft (a + b) = (x.rotateLeft a).rotateLeft b := by
  refine BitVec.eq_of_getMsbD_eq fun i hi => ?_
  have hn : (b + i) % n < n := Nat.mod_lt _ (by omega)
  simp only [BitVec.getMsbD_rotateLeft, hi, hn, decide_true, Bool.true_and, Nat.add_mod_mod, Nat.add_assoc]

/-- Bit `i` after a rotation to the right by `r` is bit `r + i`, modulo the width. -/
theorem getLsbD_rotateRight_mod {n : ℕ} (x : BitVec n) (r : ℕ) {i : ℕ} (hi : i < n) :
    (x.rotateRight r).getLsbD i = x.getLsbD ((r + i) % n) := by
  have hr : r % n < n := Nat.mod_lt _ (by omega)
  have hmod : (r + i) % n = (r % n + i) % n := (Nat.mod_add_mod ..).symm
  rw [BitVec.getLsbD_rotateRight, hmod]
  by_cases hlow : i < n - r % n
  · have hsame : (r % n + i) % n = r % n + i := Nat.mod_eq_of_lt (by omega)
    rw [decide_eq_true hlow, cond_true, hsame]
  · have hwrap : (r % n + i) % n = i - (n - r % n) := by
      rw [Nat.mod_eq_sub_mod (by omega), Nat.mod_eq_of_lt (by omega)]
      omega
    rw [decide_eq_false hlow, cond_false, decide_eq_true hi, Bool.true_and, hwrap]

theorem rotateRight_zero {n : ℕ} (x : BitVec n) : x.rotateRight 0 = x := by
  refine BitVec.eq_of_getLsbD_eq fun i hi => ?_
  rw [getLsbD_rotateRight_mod x 0 hi, Nat.zero_add, Nat.mod_eq_of_lt hi]

theorem rotateRight_add {n : ℕ} (x : BitVec n) (a b : ℕ) :
    x.rotateRight (a + b) = (x.rotateRight a).rotateRight b := by
  refine BitVec.eq_of_getLsbD_eq fun i hi => ?_
  have hn : (b + i) % n < n := Nat.mod_lt _ (by omega)
  simp only [getLsbD_rotateRight_mod, hi, hn, Nat.add_mod_mod, Nat.add_assoc]

/-! ### One place -/

/-- A bit shifted in at the bottom. -/
theorem shiftLeft_add_lowBit {n : ℕ} (x : BitVec n) (b : Bool) : (x <<< 1) + lowBit b = x.shiftConcat b := by
  apply BitVec.eq_of_toNat_eq
  simp [lowBit, BitVec.toNat_shiftConcat]

theorem getElem_topBit {n : ℕ} (b : Bool) {i : ℕ} (hi : i < n) :
    (topBit b : BitVec n)[i] = (decide (i + 1 = n) && b) := by
  cases b with
  | false => simp [topBit]
  | true =>
    simp only [topBit, if_true, BitVec.getElem_twoPow, Bool.and_true]
    exact decide_eq_decide.2 (by omega)

/-- A bit shifted in at the top, which the shift has left empty. -/
theorem getElem_ushiftRight_add_topBit {n : ℕ} (x : BitVec n) (b : Bool) {i : ℕ} (hi : i < n) :
    ((x >>> 1) + topBit b)[i] = if h : i + 1 < n then x[i + 1] else b := by
  have hdisj : x >>> 1 &&& topBit b = 0#n := by
    ext j hj
    rw [BitVec.getElem_and, BitVec.getElem_ushiftRight, getElem_topBit, BitVec.getElem_zero]
    by_cases htop : j + 1 = n
    · rw [BitVec.getLsbD_of_ge _ _ (by omega), Bool.false_and]
    · rw [decide_eq_false htop, Bool.false_and, Bool.and_false]
  rw [BitVec.add_eq_or_of_and_eq_zero _ _ hdisj, BitVec.getElem_or, BitVec.getElem_ushiftRight, getElem_topBit,
    Nat.add_comm 1 i]
  by_cases htop : i + 1 = n
  · rw [BitVec.getLsbD_of_ge _ _ htop.ge, decide_eq_true htop, dif_neg htop.not_lt, Bool.false_or, Bool.true_and]
  · have hlt : i + 1 < n := by omega
    rw [decide_eq_false htop, dif_pos hlt, Bool.false_and, Bool.or_false, BitVec.getLsbD_eq_getElem hlt]

/-- Rotating to the left by one shifts the top bit in at the bottom. -/
theorem shiftConcat_msb {n : ℕ} (x : BitVec n) : x.shiftConcat x.msb = x.rotateLeft 1 := by
  ext i hi
  rw [BitVec.getElem_shiftConcat, BitVec.getElem_rotateLeft, BitVec.msb_eq_getLsbD_last,
    BitVec.getLsbD_eq_getElem (by omega)]
  obtain rfl | hn : n = 1 ∨ 1 < n := by omega
  · obtain rfl : i = 0 := by omega
    rfl
  · simp only [Nat.mod_eq_of_lt hn, Nat.lt_one_iff]
    split
    · rename_i h0
      simp only [h0, Nat.add_zero]
    · rfl

/-- Rotating to the right by one shifts the bottom bit in at the top. -/
theorem ushiftRight_add_topBit_lsb {n : ℕ} (x : BitVec n) :
    (x >>> 1) + topBit (x.getLsbD 0) = x.rotateRight 1 := by
  ext i hi
  have hmod := getLsbD_rotateRight_mod x 1 hi
  rw [BitVec.getLsbD_eq_getElem hi] at hmod
  rw [getElem_ushiftRight_add_topBit x _ hi, hmod, Nat.add_comm 1 i]
  split
  · rename_i h
    rw [Nat.mod_eq_of_lt h, BitVec.getLsbD_eq_getElem h]
  · have hn : i + 1 = n := by omega
    rw [hn, Nat.mod_self]

/-- A signed shift to the right by one shifts the sign in at the top. -/
theorem ushiftRight_add_topBit_msb {n : ℕ} (x : BitVec n) :
    (x >>> 1) + topBit x.msb = x.sshiftRight 1 := by
  ext i hi
  rw [getElem_ushiftRight_add_topBit x _ hi, BitVec.getElem_sshiftRight]
  simp only [Nat.add_comm 1 i]

/-! ### CF joined to the operand -/

/-- What RCL and RCR rotate: CF above the operand (42 R452, R453). -/
def joined {n : ℕ} (p : BitVec n × Bool) : BitVec (n + 1) := BitVec.cons p.2 p.1

theorem joined_rclStep {n : ℕ} (hn : 0 < n) (p : BitVec n × Bool) :
    joined (rclStep p) = (joined p).rotateLeft 1 := by
  obtain ⟨x, b⟩ := p
  have hmsb : (joined (x, b)).msb = b := BitVec.msb_cons
  rw [← shiftConcat_msb, hmsb, rclStep, shiftLeft_add_lowBit]
  ext i hi
  simp only [joined, BitVec.getElem_cons, BitVec.getElem_shiftConcat]
  by_cases htop : i = n
  · subst htop
    simp [hn.ne', BitVec.msb_eq_getLsbD_last, show i - 1 < i by omega, show i - 1 ≠ i by omega]
  · simp [htop, show i - 1 ≠ n by omega]

theorem joined_rcrStep {n : ℕ} (hn : 0 < n) (p : BitVec n × Bool) :
    joined (rcrStep p) = (joined p).rotateRight 1 := by
  obtain ⟨x, b⟩ := p
  have hlsb : (joined (x, b)).getLsbD 0 = x.getLsbD 0 := by
    rw [joined, BitVec.getLsbD_cons, if_neg hn.ne]
  rw [← ushiftRight_add_topBit_lsb, hlsb, rcrStep]
  ext i hi
  rw [getElem_ushiftRight_add_topBit _ _ hi]
  simp only [joined, BitVec.getElem_cons]
  by_cases htop : i = n
  · simp [htop]
  · have hin : i < n := by omega
    rw [dif_neg htop, getElem_ushiftRight_add_topBit _ _ hin, dif_pos (Nat.succ_lt_succ hin)]
    by_cases hlast : i + 1 = n
    · rw [dif_neg hlast.not_lt, dif_pos hlast]
    · rw [dif_pos (show i + 1 < n by omega), dif_neg hlast]

/-! ### The steps of each kind -/

section
variable {n : ℕ} (x : BitVec n) (b : Bool) {c : ℕ}

/-- CF is the top bit before the last step. -/
theorem repeat_salStep (hc : 0 < c) : Nat.repeat salStep c (x, b) = (x <<< c, (x <<< (c - 1)).msb) :=
  repeat_eq (y := (x <<< ·)) (cf := fun c => (x <<< (c - 1)).msb) (BitVec.shiftLeft_zero x)
    (fun c d => by rw [salStep, ← BitVec.shiftLeft_add, Nat.add_sub_cancel]) b hc

/-- CF is the bottom bit before the last step. -/
theorem repeat_shrStep (hc : 0 < c) : Nat.repeat shrStep c (x, b) = (x >>> c, (x >>> (c - 1)).getLsbD 0) :=
  repeat_eq (y := (x >>> ·)) (cf := fun c => (x >>> (c - 1)).getLsbD 0) (BitVec.ushiftRight_zero x)
    (fun c d => by rw [shrStep, ← BitVec.shiftRight_add, Nat.add_sub_cancel]) b hc

theorem repeat_sarStep (hc : 0 < c) :
    Nat.repeat sarStep c (x, b) = (x.sshiftRight c, (x.sshiftRight (c - 1)).getLsbD 0) :=
  repeat_eq (y := x.sshiftRight) (cf := fun c => (x.sshiftRight (c - 1)).getLsbD 0) BitVec.sshiftRight_zero
    (fun c d => by rw [sarStep, ushiftRight_add_topBit_msb, ← BitVec.sshiftRight_add, Nat.add_sub_cancel]) b hc

/-- CF is the bit that came in at the bottom. -/
theorem rolStep_eq (hn : 0 < n) (d : Bool) : rolStep (x, d) = (x.rotateLeft 1, (x.rotateLeft 1).getLsbD 0) := by
  rw [rolStep, shiftLeft_add_lowBit, ← shiftConcat_msb, BitVec.getLsbD_shiftConcat, decide_eq_true hn]
  rfl

/-- CF is the bit that came in at the top. -/
theorem rorStep_eq (hn : 0 < n) (d : Bool) : rorStep (x, d) = (x.rotateRight 1, (x.rotateRight 1).msb) := by
  have hmsb : ((x >>> 1) + topBit (x.getLsbD 0)).msb = x.getLsbD 0 := by
    rw [BitVec.msb_eq_getLsbD_last, BitVec.getLsbD_eq_getElem (Nat.sub_lt hn Nat.one_pos),
      getElem_ushiftRight_add_topBit, dif_neg (by omega)]
  rw [rorStep, ← ushiftRight_add_topBit_lsb, hmsb]

theorem repeat_rolStep (hn : 0 < n) (hc : 0 < c) :
    Nat.repeat rolStep c (x, b) = (x.rotateLeft c, (x.rotateLeft c).getLsbD 0) :=
  repeat_eq (y := x.rotateLeft) (cf := fun c => (x.rotateLeft c).getLsbD 0) (rotateLeft_zero x)
    (fun c d => by rw [rolStep_eq _ hn, rotateLeft_add]) b hc

theorem repeat_rorStep (hn : 0 < n) (hc : 0 < c) :
    Nat.repeat rorStep c (x, b) = (x.rotateRight c, (x.rotateRight c).msb) :=
  repeat_eq (y := x.rotateRight) (cf := fun c => (x.rotateRight c).msb) (rotateRight_zero x)
    (fun c d => by rw [rorStep_eq _ hn, rotateRight_add]) b hc

theorem joined_repeat_rclStep (hn : 0 < n) (c : ℕ) :
    joined (Nat.repeat rclStep c (x, b)) = (joined (x, b)).rotateLeft c :=
  view_repeat (y := (joined (x, b)).rotateLeft)
    (fun p c hp => by rw [joined_rclStep hn, hp, rotateLeft_add]) (rotateLeft_zero _).symm c

theorem joined_repeat_rcrStep (hn : 0 < n) (c : ℕ) :
    joined (Nat.repeat rcrStep c (x, b)) = (joined (x, b)).rotateRight c :=
  view_repeat (y := (joined (x, b)).rotateRight)
    (fun p c hp => by rw [joined_rcrStep hn, hp, rotateRight_add]) (rotateRight_zero _).symm c

end

/-- Settles O19: the steps of each kind, and the shift of a signed value, which is its quotient rounded down. -/
theorem shiftStepsAddUp : Obligations.ShiftStepsAddUp := by
  intro n x b c hn hc
  have hsar : (x.sshiftRight c).toInt = x.toInt / 2 ^ c := by
    rw [BitVec.toInt_sshiftRight, Int.shiftRight_eq_div_pow]
    norm_cast
  exact ⟨repeat_salStep x b hc, repeat_shrStep x b hc, repeat_sarStep x b hc, hsar, repeat_rolStep x b hn hc,
    repeat_rorStep x b hn hc, joined_repeat_rclStep x b hn c, joined_repeat_rcrStep x b hn c⟩

end Sys2Proof.Machine
end

section
/-!
The string instructions (43 R480 to R495; 46 R614, R615). What one primitive does is said once, of the state it leaves;
an unrepeated instruction then moves IP on, and an iteration of a repeated one counts CX down and moves IP on only when
the loop ends.
-/

namespace Sys2Proof.Machine

section
variable (s : State) (op : StrOp) (wide : Bool)

/-! ### The state one primitive leaves -/

/-- A primitive writes registers, FLAGS, memory and the I/O history at most. -/
theorem State.strStep_eq : s.strStep op wide = { s with
    regs := (s.strStep op wide).regs, flags := (s.strStep op wide).flags, mem := (s.strStep op wide).mem,
    ioLog := (s.strStep op wide).ioLog } := by
  rw [State.strStep, State.strAdvance_eq, State.strData_eq]

theorem State.strStep_ip : (s.strStep op wide).ip = s.ip := by rw [State.strStep_eq]

theorem State.strStep_nextIp : (s.strStep op wide).nextIp = s.nextIp := by rw [State.strStep_eq]; rfl

/-- What the statements call the system is left alone but for the I/O history. -/
theorem State.strStep_system : (s.strStep op wide).msw = s.msw ∧ SameSegs s (s.strStep op wide) ∧
    SameTables s (s.strStep op wide) ∧
    SameHidden { s with ioLog := (s.strStep op wide).ioLog } (s.strStep op wide) := by
  rw [State.strStep_eq]
  exact SameSystem.refl _

/-- The accumulator is the only register the data part writes. -/
theorem State.strData_cx : (s.strData op wide).reg .cx = s.reg .cx := by
  rw [State.reg, State.strData_regs]
  split
  · cases wide with
    | false => exact State.setReg8_reg_ne s (by decide) _
    | true => exact State.setReg_reg_ne s (by decide) _
  · rfl

/-- The pointer advance writes SI and DI. -/
theorem State.strAdvance_cx : (s.strAdvance op wide).reg .cx = s.reg .cx := by cases op <;> rfl

theorem State.strStep_cx : (s.strStep op wide).reg .cx = s.reg .cx :=
  (State.strAdvance_cx ..).trans (s.strData_cx op wide)

/-! ### The effect of a run -/

/-- IP has no part in the effect of a primitive. -/
theorem StrEffect.advance {s t : State} {op : StrOp} {wide : Bool} (h : StrEffect s t op wide) :
    StrEffect s t.advance op wide :=
  { h with }

/-- The primitive done and CX counted down: an iteration before its test of the loop's end (43 R494). -/
def State.strCounted : State := (s.strStep op wide).setReg .cx ((s.strStep op wide).reg .cx - 1)

theorem State.strCounted_cx : (s.strCounted op wide).reg .cx = s.reg .cx - 1 := by
  rw [State.strCounted, State.setReg_reg_same, State.strStep_cx]

theorem State.strCounted_effect {s : State} (h : Canonical s) : StrEffect s (s.strCounted op wide) op wide :=
  .of_strStep h op wide (fun _ hr => State.setReg_reg_ne _ hr _) rfl rfl rfl (s.strStep_system op wide)

theorem State.strStep_effect {s : State} (h : Canonical s) : StrEffect s (s.strStep op wide) op wide :=
  .of_strStep h op wide (fun _ _ => rfl) rfl rfl rfl (s.strStep_system op wide)

/-! ### The end of the loop -/

/-- The loop of a primitive repeated by `r` ends in `t`: the count is used up, or ZF ends a comparison (43 R494). -/
def RepEnds (t : State) (op : StrOp) (r : Rep) : Prop :=
  t.reg .cx = 0 ∨ (op.compares = true ∧ (r = .repe ∧ t.flags.zf = false ∨ r = .repne ∧ t.flags.zf = true))

theorem repEnds_iff (t : State) (op : StrOp) (r : Rep) :
    RepEnds t op r ↔ (t.reg .cx == 0 || repStops op r t.flags.zf) = true := by
  cases r <;> simp [RepEnds, repStops]

variable {s op wide} {r : Rep}

theorem State.strIter_of_ends (h : RepEnds (s.strCounted op wide) op r) :
    s.strIter op wide r = (s.strCounted op wide).advance :=
  if_pos ((repEnds_iff ..).1 h)

theorem State.strIter_of_not_ends (h : ¬RepEnds (s.strCounted op wide) op r) :
    s.strIter op wide r = s.strCounted op wide :=
  if_neg (mt (repEnds_iff ..).2 h)

/-! ### The unrepeated and the repeated instructions -/

theorem exec_plain_of_ready (hrep : s.cur.rep = none) (hready : StrReady s op wide) :
    exec (op.plain wide) s = .next (s.strStep op wide).advance := by
  rw [execPlain, hrep]
  exact attemptIn_of_ok (hready.check none)

theorem State.repDone_some : s.repDone (some r) = true ↔ s.reg .cx = 0 := beq_iff_eq

theorem Repeats.exec_of_ready {i : Instr} (hi : Repeats s op wide i r) (hcx : s.reg .cx ≠ 0)
    (hready : StrReady s op wide) : exec i s = .next (s.strIter op wide r) := by
  have hnext : s.strNext op wide (some r) = s.strIter op wide r := if_neg (mt State.repDone_some.1 hcx)
  rw [hi.exec_eq, ← hnext]
  exact attemptIn_of_ok (hready.check (some r))

/-- With the count used up only the IOPL test of INS and OUTS is left of the checks. -/
theorem State.checkStr_of_repDone {rep : Option Rep} (hdone : s.repDone rep = true)
    (htrusted : op.isIo = true → s.untrusted = false) : s.checkStr op wide rep = .ok () := by
  unfold State.checkStr
  cases hio : op.isIo with
  | false => exact if_pos hdone
  | true => exact bind_ok.2 ⟨by simp [State.checkTrusted, htrusted hio], if_pos hdone⟩

theorem Repeats.exec_of_cx_zero {i : Instr} (hi : Repeats s op wide i r) (hcx : s.reg .cx = 0)
    (htrusted : op.isIo = true → s.untrusted = false) : exec i s = .next s.advance := by
  have hdone : s.repDone (some r) = true := State.repDone_some.2 hcx
  have hnext : s.strNext op wide (some r) = s.advance := if_pos hdone
  rw [hi.exec_eq, ← hnext]
  exact attemptIn_of_ok (State.checkStr_of_repDone hdone htrusted)

end

/-- Settles O20: the primitive is done and IP moves on, which CX has no part in. -/
theorem stringPrimitives : Obligations.StringPrimitives := by
  intro s op wide h hrep hready
  exact ⟨_, exec_plain_of_ready hrep hready, (State.strStep_effect op wide h).advance, s.strStep_cx op wide,
    s.strStep_nextIp op wide⟩

/-- Settles O21: CX and ZF, which decide whether IP moves on, are those of the counted primitive in either case. -/
theorem repeatedStrings : Obligations.RepeatedStrings := by
  intro s op wide i r hi
  refine ⟨fun h hcx hready => ?_, fun hcx htrusted => ?_⟩
  · have heffect := State.strCounted_effect op wide h
    have hcount := s.strCounted_cx op wide
    have hexec := hi.exec_of_ready hcx hready
    by_cases hends : RepEnds (s.strCounted op wide) op r
    · rw [State.strIter_of_ends hends] at hexec
      exact ⟨_, hexec, heffect.advance, hcount, fun _ => s.strStep_nextIp op wide, fun hn => absurd hends hn⟩
    · rw [State.strIter_of_not_ends hends] at hexec
      exact ⟨_, hexec, heffect, hcount, fun he => absurd he hends, fun _ => s.strStep_ip op wide⟩
  · exact ⟨_, hi.exec_of_cx_zero hcx htrusted, rfl, ⟨fun _ _ => rfl, fun _ _ => rfl⟩, rfl, SameSystem.refl s⟩

end Sys2Proof.Machine
end

section
/-!
The sixteen conditions of the conditional jumps (44 R520), as tests of flags and, after a comparison, as relations of
the numbers compared.
-/

namespace Sys2Proof.Machine

/-! ### As tests of flags -/

section
variable (f : Flags)

/-- An odd condition is the negation of the even one below it. -/
theorem Flags.cond_or_one {c : BitVec 4} (hc : c.getLsbD 0 = false) : f.cond (c ||| 1) = !f.cond c := by
  have hodd : (c ||| 1).toNat = c.toNat + 1 ∧ c.toNat % 2 = 0 := by
    revert c
    decide
  obtain ⟨hsucc, heven⟩ := hodd
  have hhalf : (c.toNat + 1) / 2 = c.toNat / 2 := by omega
  have hone : (c.toNat + 1) % 2 ≠ 0 := by omega
  simp only [Flags.cond, hsucc, hhalf, if_neg hone, if_pos heven]

theorem Flags.cond_o : f.cond 0 = true ↔ f.of = true := Iff.rfl
theorem Flags.cond_b : f.cond 2 = true ↔ f.cf = true := Iff.rfl
theorem Flags.cond_e : f.cond 4 = true ↔ f.zf = true := Iff.rfl
theorem Flags.cond_be : f.cond 6 = true ↔ f.cf = true ∨ f.zf = true := Bool.or_eq_true_iff ..
theorem Flags.cond_s : f.cond 8 = true ↔ f.sf = true := Iff.rfl
theorem Flags.cond_p : f.cond 10 = true ↔ f.pf = true := Iff.rfl
theorem Flags.cond_l : f.cond 12 = true ↔ f.sf ≠ f.of := bne_iff_ne
theorem Flags.cond_le : f.cond 14 = true ↔ f.zf = true ∨ f.sf ≠ f.of :=
  (Bool.or_eq_true_iff ..).trans (or_congr_right bne_iff_ne)

theorem Flags.cond_or_one_iff {c : BitVec 4} (hc : c.getLsbD 0 = false) :
    f.cond (c ||| 1) = true ↔ ¬f.cond c = true := by
  rw [f.cond_or_one hc, Bool.not_eq_true', Bool.not_eq_true]

theorem Flags.cond_no : f.cond 1 = true ↔ f.of = false :=
  (f.cond_or_one_iff (c := 0) rfl).trans (by rw [f.cond_o, Bool.not_eq_true])
theorem Flags.cond_ae : f.cond 3 = true ↔ f.cf = false :=
  (f.cond_or_one_iff (c := 2) rfl).trans (by rw [f.cond_b, Bool.not_eq_true])
theorem Flags.cond_ne : f.cond 5 = true ↔ f.zf = false :=
  (f.cond_or_one_iff (c := 4) rfl).trans (by rw [f.cond_e, Bool.not_eq_true])
theorem Flags.cond_a : f.cond 7 = true ↔ f.cf = false ∧ f.zf = false :=
  (f.cond_or_one_iff (c := 6) rfl).trans (by rw [f.cond_be, not_or, Bool.not_eq_true, Bool.not_eq_true])
theorem Flags.cond_ns : f.cond 9 = true ↔ f.sf = false :=
  (f.cond_or_one_iff (c := 8) rfl).trans (by rw [f.cond_s, Bool.not_eq_true])
theorem Flags.cond_np : f.cond 11 = true ↔ f.pf = false :=
  (f.cond_or_one_iff (c := 10) rfl).trans (by rw [f.cond_p, Bool.not_eq_true])
theorem Flags.cond_ge : f.cond 13 = true ↔ f.sf = f.of :=
  (f.cond_or_one_iff (c := 12) rfl).trans (by rw [f.cond_l, not_not])
theorem Flags.cond_g : f.cond 15 = true ↔ f.zf = false ∧ f.sf = f.of :=
  (f.cond_or_one_iff (c := 14) rfl).trans (by rw [f.cond_le, not_or, Bool.not_eq_true, not_not])

end

/-! ### After a comparison -/

section
variable {n : Nat} (hn : 0 < n) (a b : BitVec n) (f : Flags)

theorem subF_zf : (subF a b false f).2.zf = true ↔ a = b := by
  simp [subF, Flags.szp, BitVec.sub_eq_iff_eq_add]

include hn

theorem subF_cf : (subF a b false f).2.cf = true ↔ a.toNat < b.toNat := (subF_says hn a b false f).borrow

/-- A signed difference is exact, or it leaves the signed range and wraps around once to a number of the other sign. -/
theorem toInt_sub_cases : (a - b).toInt = a.toInt - b.toInt ∧ FitsSigned n (a.toInt - b.toInt) ∨
    ¬FitsSigned n (a.toInt - b.toInt) ∧ ((a - b).toInt < 0 ↔ 0 ≤ a.toInt - b.toInt) := by
  have hm : ((2 ^ n : Nat) : Int) = 2 * 2 ^ (n - 1) := by
    rw [← pow_succ', Nat.sub_add_cancel hn]
    norm_num
  have ha := And.intro (BitVec.le_toInt a) (BitVec.toInt_lt (x := a))
  have hb := And.intro (BitVec.le_toInt b) (BitVec.toInt_lt (x := b))
  have hbmod {x : Int} (hl : -(2 ^ (n - 1)) ≤ x) (hr : x < 2 ^ (n - 1)) : x.bmod (2 ^ n) = x :=
    Int.bmod_eq_of_le (by omega) (by omega)
  rw [BitVec.toInt_sub]
  unfold FitsSigned
  generalize hd : a.toInt - b.toInt = d
  by_cases hl : -(2 ^ (n - 1)) ≤ d
  · by_cases hr : d < 2 ^ (n - 1)
    · exact .inl ⟨hbmod hl hr, hl, hr⟩
    · rw [← Int.sub_bmod_right, hbmod (by omega) (by omega)]
      omega
  · rw [← Int.add_bmod_right, hbmod (by omega) (by omega)]
    omega

/-- The sign of the difference is wrong exactly when the difference overflows. -/
theorem subF_sf_ne_of : (subF a b false f).2.sf ≠ (subF a b false f).2.of ↔ a.toInt < b.toInt := by
  have hsf : (subF a b false f).2.sf = true ↔ (a - b).toInt < 0 := by
    simp [subF, Flags.szp, BitVec.msb_eq_toInt]
  have hof : (subF a b false f).2.of = true ↔ ¬FitsSigned n (a.toInt - b.toInt) := by
    simpa using (subF_says hn a b false f).overflow
  rw [Ne, Bool.eq_iff_iff, hsf, hof]
  rcases toInt_sub_cases hn a b with ⟨hexact, hfits⟩ | ⟨hover, hsign⟩
  · simp only [hexact, hfits, not_true, iff_false, not_not]
    omega
  · simp only [hover, not_false_iff, iff_true, hsign]
    omega

end

/-- Settles O23: JB and JE are CF and ZF, JL is a sign that overflow has corrected, and JBE and JLE add equality. -/
theorem conditionsAfterCompare : Obligations.ConditionsAfterCompare := by
  intro n a b f hn g
  have hcf : g.cf = true ↔ a.toNat < b.toNat := subF_cf hn a b f
  have hzf : g.zf = true ↔ a = b := subF_zf a b f
  have hless : g.sf ≠ g.of ↔ a.toInt < b.toInt := subF_sf_ne_of hn a b f
  refine ⟨hcf, ?_, hzf, g.cond_l.trans hless, ?_, fun c => g.cond_or_one⟩
  · rw [g.cond_be, hcf, hzf, ← BitVec.toNat_inj, Nat.le_iff_lt_or_eq]
  · rw [g.cond_le, hzf, hless, ← BitVec.toInt_inj, le_iff_eq_or_lt]

end Sys2Proof.Machine
end

section
/-!
Near control transfers (44 R510 to R515, R520 to R525, R530, R531, R540). Every form is one shared operation behind a
check of its target, so each shared operation is described once and a form only names its target and its condition.
-/

namespace Sys2Proof.Machine

/-! ### Jumps and loops -/

section
variable {i : Instr} {s : State} {x : Word}

theorem State.checkNear_ok : s.checkNear x = .ok () ↔ InCode s x := by
  simp [State.checkNear, InCode, imp_iff_not_or]

theorem State.checkNear_error (hx : ¬InCode s x) : s.checkNear x = .error (.gp 0) := by
  have hoff : (!s.msw.pe || decide (x.toNat ≤ s.cs.limit.toNat)) = false := by
    simpa [InCode] using hx
  rw [State.checkNear, hoff]
  rfl

/-- A transfer behind the check of its target. -/
theorem JumpsTo.of_attempt {c : Except Exn Unit} (hc : c = s.checkNear x)
    (he : exec i s = attempt s c (s.setIp x)) : JumpsTo i s x := by
  subst hc
  exact
    ⟨fun hx => ⟨_, he.trans (attempt_of_ok (State.checkNear_ok.2 hx)), ⟨rfl, rfl⟩, ⟨fun _ _ => rfl, fun _ _ => rfl⟩, rfl,
      SameSystem.refl s⟩,
    fun hx => he.trans (attempt_of_error (State.checkNear_error hx))⟩

theorem State.advance_advanced (s : State) : Advanced s s.advance := ⟨rfl, decide_eq_true_iff⟩

/-- A conditional jump behind the check of a target that is taken (44 R520). -/
theorem JumpsIf.of_attempt {c : Bool} {C : Prop} (hc : c = true ↔ C)
    (he : exec i s = attempt s (s.checkIf c x) (s.jumpIf c x)) : JumpsIf i s C x := by
  cases c with
  | true => exact ⟨fun _ => .of_attempt rfl he, fun hC => absurd (hc.1 rfl) hC⟩
  | false =>
    exact ⟨fun hC => absurd (hc.2 hC) Bool.false_ne_true,
      fun _ => ⟨_, he, s.advance_advanced, ⟨fun _ _ => rfl, fun _ _ => rfl⟩, rfl, SameSystem.refl s⟩⟩

/-- A loop counts CX down whether it jumps or goes on, but not when its target is beyond the limit (44 R523). -/
theorem LoopsIf.of_loopIf {z : Bool} {Z : Prop} (hz : z = true ↔ Z) {b : Byte} (he : exec i s = loopIf s z b) :
    LoopsIf i s Z (s.nextIp + sext16 b) := by
  have htaken : (s.reg .cx - 1 != 0 && z) = true ↔ s.reg .cx - 1 ≠ 0 ∧ Z := by
    rw [Bool.and_eq_true, bne_iff_ne, hz]
  obtain ⟨hcx, hregs, hmem⟩ := s.setReg_effect .cx (s.reg .cx - 1)
  replace he : exec i s = attempt s (s.checkIf (s.reg .cx - 1 != 0 && z) (s.target8 b))
      ((s.setReg .cx (s.reg .cx - 1)).jumpIf (s.reg .cx - 1 != 0 && z) (s.target8 b)) := he
  generalize (s.reg .cx - 1 != 0 && z) = taken at he htaken
  cases taken with
  | true =>
    refine ⟨fun _ => ⟨fun hx => ?_, fun hx => ?_⟩, fun hn => absurd (htaken.1 rfl) hn⟩
    · exact ⟨_, he.trans (attempt_of_ok (State.checkNear_ok.2 hx)), hcx, ⟨rfl, rfl⟩, hregs, hmem, rfl, SameSystem.refl s⟩
    · exact he.trans (attempt_of_error (State.checkNear_error hx))
  | false =>
    exact ⟨fun hy => absurd (htaken.2 hy) Bool.false_ne_true,
      fun _ => ⟨_, he, hcx, s.advance_advanced, hregs, hmem, rfl, SameSystem.refl s⟩⟩

end

/-- Settles O22: each jump names its condition, LOOPE and LOOPNE the value of ZF that they ask for, LOOP none. -/
theorem jumpsAndLoops : Obligations.JumpsAndLoops := by
  intro s b x f
  exact ⟨.of_attempt f.cond_o rfl, .of_attempt f.cond_no rfl, .of_attempt f.cond_b rfl, .of_attempt f.cond_ae rfl,
    .of_attempt f.cond_e rfl, .of_attempt f.cond_ne rfl, .of_attempt f.cond_be rfl, .of_attempt f.cond_a rfl,
    .of_attempt f.cond_s rfl, .of_attempt f.cond_ns rfl, .of_attempt f.cond_p rfl, .of_attempt f.cond_np rfl,
    .of_attempt f.cond_l rfl, .of_attempt f.cond_ge rfl, .of_attempt f.cond_le rfl, .of_attempt f.cond_g rfl,
    .of_attempt beq_iff_eq rfl, .of_loopIf (by simp) rfl, .of_loopIf Iff.rfl rfl, .of_loopIf (by simp) rfl⟩

/-! ### CALL and RET -/

section
variable {i : Instr} {s : State} {x : Word}

/-- A check in front that passes leaves the rest. -/
theorem bind_of_ok {c d : Except Exn Unit} (hc : c = .ok ()) : (do c; d) = d := by subst hc; rfl

theorem State.checkCall_of_room (hroom : s.stackRoom 1 = true) : s.checkCall x = s.checkNear x :=
  bind_of_ok ((require_ok ..).2 hroom)

theorem State.checkCall_of_noRoom (hroom : s.stackRoom 1 = false) :
    s.checkCall x = .error (if s.msw.pe then .ss 0 else .shutdown) := by
  rw [State.checkCall, hroom]
  rfl

theorem CallsNear.of_attempt (h : Canonical s) {c : Except Exn Unit} (hc : c = s.checkCall x)
    (he : exec i s = attempt s c (s.callNear x)) : CallsNear i s x := by
  subst hc
  refine ⟨fun hroom hx => ?_, fun hroom hx => ?_, fun hroom => ?_⟩
  · rw [State.checkCall_of_room hroom] at he
    exact ⟨_, he.trans (attempt_of_ok (State.checkNear_ok.2 hx)), State.push_effect h s.nextIp, ⟨rfl, rfl⟩, rfl,
      SameSystem.refl s⟩
  · rw [State.checkCall_of_room hroom] at he
    exact he.trans (attempt_of_error (State.checkNear_error hx))
  · rw [he, attempt_of_error (State.checkCall_of_noRoom hroom)]
    cases s.msw.pe <;> rfl

theorem ReturnsNear.of_attempt {imm : Word} (he : exec i s = attempt s s.checkRetNear (s.retNear imm)) :
    ReturnsNear i s imm := by
  intro hframe
  rw [State.checkRetNear, bind_of_ok hframe] at he
  obtain ⟨hsp, hregs, hmem⟩ := s.setReg_effect .sp (s.reg .sp + (2 + imm))
  refine ⟨fun hx => ?_, fun hx => he.trans (attempt_of_error (State.checkNear_error hx))⟩
  exact ⟨_, he.trans (attempt_of_ok (State.checkNear_ok.2 hx)), ⟨rfl, rfl⟩, hsp.trans (BitVec.add_assoc ..).symm, hregs,
    hmem, rfl, SameSystem.refl s⟩

end

/-- Settles O24: the forms with a target in memory check that operand first. -/
theorem nearTransfers : Obligations.NearTransfers := by
  intro s h
  exact ⟨fun b => .of_attempt rfl rfl, fun w => .of_attempt rfl rfl, fun e hc => .of_attempt (bind_of_ok hc) rfl,
    fun w => .of_attempt h rfl rfl, fun e hc => .of_attempt h (bind_of_ok hc) rfl,
    .of_attempt rfl, fun w => .of_attempt rfl⟩

end Sys2Proof.Machine
end

section
/-!
What was pushed is what a return finds (44 R530, R540; 60 R784): the words of a frame read back from SS:SP, and the
registers are those from before the pushes.
-/

namespace Sys2Proof.Machine

/-- Registers that read the same one by one are the same. -/
theorem Regs.ext_get {g k : Regs} (h : ∀ r, g.get r = k.get r) : g = k := by
  cases g
  cases k
  simp only [Regs.mk.injEq]
  exact ⟨h .ax, h .cx, h .dx, h .bx, h .sp, h .bp, h .si, h .di⟩

/-- Registers after a frame was pushed and then released. -/
theorem regs_of_released {s t u : State} {k : Word} (hpush : t.reg .sp = s.reg .sp - k)
    (hpop : u.reg .sp = t.reg .sp + k) (hst : SameRegsBut s t [.sp]) (htu : SameRegsBut t u [.sp]) : u.regs = s.regs := by
  refine Regs.ext_get fun r => ?_
  by_cases hr : r = .sp
  · subst hr
    exact hpop.trans (by rw [hpush, BitVec.sub_add_cancel]; rfl)
  · have hr : r ∉ [Reg16.sp] := by simpa using hr
    exact (htu r hr).trans (hst r hr)

/-- The mode is all of the state that a limit depends on. -/
theorem State.inLimit_congr {s t : State} (hmsw : t.msw = s.msw) (g : Seg) (off : Word) (n : Nat) :
    t.inLimit g off n = s.inLimit g off n := by
  simp only [State.inLimit, hmsw]

section
variable {s t : State} {l : List Word} (hframe : FramePushed s t l [])
include hframe

/-- The `j`-th word from SP up in a frame is the `j`-th last one that was pushed. -/
theorem FramePushed.sp_add {j : Nat} (hj : j < l.length) :
    t.reg .sp + BitVec.ofNat 16 (2 * j) = s.spDown (BitVec.ofNat 16 (2 * (l.length - 1 - j + 1))) := by
  obtain ⟨-, -, hsp, -⟩ := hframe
  rw [hsp]
  apply BitVec.eq_of_toNat_eq
  simp only [State.spDown, BitVec.toNat_add, BitVec.toNat_sub, BitVec.toNat_ofNat]
  omega

variable (hss : t.ss = s.ss) (hmsw : t.msw = s.msw)
include hss hmsw

/-- A word of a frame in memory that keeps what is written reads back as it was pushed. -/
theorem FramePushed.stackWord (henv : t.env = s.env) (hrom : ∀ k ∈ s.belowCells l.length, s.isRom k = false) {j : Nat}
    (hj : j < l.length) : t.stackWord (BitVec.ofNat 16 (2 * j)) = l[l.length - 1 - j] := by
  have hi : l.length - 1 - j < l.length := by omega
  obtain ⟨hlo, hhi⟩ := hframe.1 _ hi
  have hcell {k : Nat} (hk : k ∈ s.wordCells (s.stackAddr (BitVec.ofNat 16 (2 * (l.length - 1 - j + 1))))) :
      s.isRom k = false := hrom k (List.mem_flatMap.2 ⟨_, List.mem_range.2 hi, hk⟩)
  have haddr : t.linear .ss (t.reg .sp + BitVec.ofNat 16 (2 * j)) =
      s.stackAddr (BitVec.ofNat 16 (2 * (l.length - 1 - j + 1))) := by
    rw [hframe.sp_add hj]
    simp only [State.stackAddr, State.linear, State.seg, hss]
  rw [State.stackWord, State.peek16, haddr]
  exact State.readWord_of_holds hmsw henv ⟨hlo List.not_mem_nil, hhi List.not_mem_nil⟩
    (hcell List.mem_cons_self) (hcell (List.mem_cons_of_mem _ List.mem_cons_self))

/-- There was room for each word of the frame, so each can be read (10 R43). -/
theorem FramePushed.inLimit (hroom : s.stackRoom l.length = true) : t.segUsable .ss = true ∧
    ∀ j, j < l.length → t.inLimit t.ss (t.reg .sp + BitVec.ofNat 16 (2 * j)) 2 = true := by
  simp only [State.stackRoom, State.room, Bool.and_eq_true, allBelow_iff] at hroom
  obtain ⟨husable, hwords⟩ := hroom
  refine ⟨?_, fun j hj => ?_⟩
  · simpa only [State.segUsable, State.seg, hss, hmsw] using husable
  · rw [hframe.sp_add hj, State.inLimit_congr hmsw, hss]
    exact hwords (l.length - 1 - j) (by omega)

theorem FramePushed.checkFrame (hroom : s.stackRoom l.length = true) : t.checkFrame l.length = .ok () := by
  obtain ⟨husable, hwords⟩ := hframe.inLimit hss hmsw hroom
  rw [State.checkFrame, require_ok, husable, Bool.true_and, allBelow_iff]
  exact hwords

end

/-- One word pushed is a frame of one word. -/
theorem Pushed.framePushed {s t : State} {v : Word} (h : Pushed s t v) : FramePushed s t [v] [] := by
  obtain ⟨⟨hlo, hhi⟩, hmem, hsp, hregs⟩ := h
  refine ⟨fun i hi => ?_, hmem, hsp, hregs⟩
  obtain rfl : i = 0 := Nat.lt_one_iff.1 hi
  exact ⟨fun _ => hlo, fun _ => hhi⟩

/-- Settles O25: the CALL left a frame of one word, which RET finds readable and releases. -/
theorem callThenReturn : Obligations.CallThenReturn := by
  intro s t w h hexec hroom htarget hback hrights hlo hhi
  obtain ⟨-, -, -, hcalls, -⟩ := nearTransfers s h
  obtain ⟨hcall, -⟩ := hcalls w
  obtain ⟨t', hexec', hpushed, -, hflags, hsys⟩ := hcall hroom htarget
  obtain rfl : t = t' := by simpa [hexec] using hexec'
  have hframe := hpushed.framePushed
  have hfields := hsys
  obtain ⟨hmsw, ⟨hcs, hss, -, -⟩, -, -, -, -, -, -, -, -, -, -, -, henv⟩ := hfields
  obtain ⟨-, -, hspT, hregsT⟩ := hpushed
  obtain ⟨husable, hwords⟩ := hframe.inLimit hss hmsw hroom
  have hcheck : t.check .ss (t.reg .sp) 2 false = .ok () := by
    refine (t.check_ok ..).2 ⟨husable, ?_, ?_⟩
    · simpa only [State.segRights, State.seg, hss, hmsw] using hrights
    · rw [← BitVec.add_zero (t.reg .sp)]
      exact hwords 0 Nat.one_pos
  have hrom : ∀ k ∈ s.wordCells (s.stackAddr 2), s.isRom k = false :=
    List.forall_mem_cons.2 ⟨hlo, List.forall_mem_singleton.2 hhi⟩
  have hword : t.stackWord 0 = s.nextIp := hframe.stackWord hss hmsw henv hrom Nat.one_pos
  have hinside : InCode t s.nextIp := by simpa only [InCode, hcs, hmsw] using hback
  have hret : ReturnsNear .retNear t 0 := .of_attempt rfl
  obtain ⟨hends, -⟩ := hret hcheck
  rw [hword] at hends
  obtain ⟨u, hexecU, hip, hsp, hregs, -, hflagsU, hsysU⟩ := hends hinside
  refine ⟨u, hexecU, hip, ?_, hflagsU.trans hflags, hsys.trans hsysU⟩
  exact regs_of_released hspT (hsp.trans (BitVec.add_zero _)) hregsT hregs

end Sys2Proof.Machine
end

section
/-!
Far transfers and interrupts in Real Address Mode (44 R513, R514, R516, R532, R533, R542, R550 to R555; 60 R780 to
R785). Each ends in the far jump of that mode from a state whose system is that of before, with registers, FLAGS and
memory as its pushes or pops leave them.
-/

namespace Sys2Proof.Machine

/-! ### The far jump -/

section
variable {s t : State} (hsys : SameSystem s t) (sel off : Word)
include hsys

/-- Of the system, a far jump changes CS (44 R516). -/
theorem SameSystem.farReal : FarReal s (t.farJumpReal sel off) sel off := by
  obtain ⟨hmsw, ⟨-, hss, hds, hes⟩, htables, -⟩ := hsys
  exact ⟨rfl, realSeg_base sel, rfl, rfl, ⟨rfl, rfl⟩, hss, hds, hes, hmsw, htables⟩

theorem SameSystem.hidden : SameHidden s t := by
  obtain ⟨-, -, -, hhidden⟩ := hsys
  exact hhidden

end

/-- The machine runs after a delivery, whatever it did before (60 R796). -/
theorem SameHidden.resume {s t : State} (h : SameHidden s t) : SameHidden { s with run := .running } t.resume := by
  obtain ⟨hpending, hmasked, hoverrun, hinhibit, htf, -, hrest⟩ := h
  exact ⟨hpending, hmasked, hoverrun, hinhibit, htf, rfl, hrest⟩

/-- IRET ends the NMI mask (60 R793). -/
theorem SameHidden.unmaskNmi {s t : State} (h : SameHidden s t) :
    SameHidden { s with nmiMasked := false } t.unmaskNmi := by
  obtain ⟨hpending, -, hrest⟩ := h
  exact ⟨hpending, rfl, hrest⟩

theorem SameTables.trans {s t u : State} (h : SameTables s t) (k : SameTables t u) : SameTables s u := by
  obtain ⟨hgdtr, hidtr, hldtr, htr⟩ := h
  obtain ⟨kgdtr, kidtr, kldtr, ktr⟩ := k
  exact ⟨kgdtr.trans hgdtr, kidtr.trans hidtr, kldtr.trans hldtr, ktr.trans htr⟩

theorem State.pushes_sameSystem (s : State) (l : List Word) : SameSystem s (s.pushes l) := by
  rw [State.pushes_eq]
  exact SameSystem.refl s

section
variable {i : Instr} {s : State} (hp : InReal s) {sel off : Word}
include hp

theorem State.jmpFar_real : s.jmpFar sel off = .ok (s.farJumpReal sel off) :=
  if_neg (Bool.eq_false_iff.1 hp)

theorem State.callFar_real (hroom : s.stackRoom 2 = true) :
    s.callFar sel off = .ok ((s.pushes [s.cs.sel, s.nextIp]).farJumpReal sel off) := by
  rw [State.callFar, hp, State.callFarReal, pushAllReal_ok [s.cs.sel, s.nextIp] s hp hroom]
  rfl

theorem State.retFar_real (hframe : s.checkFrame 2 = .ok ()) (imm : Word) :
    s.retFar imm = .ok (s.retFarReal imm) := by
  rw [State.retFar, hp, hframe]
  rfl

theorem JumpsFar.ends_real (hi : JumpsFar i s sel off) :
    Ends i s fun t => FarReal s t sel off ∧ WroteNothing s t ∧ t.flags = s.flags ∧ SameHidden s t := by
  refine ⟨s.farJumpReal sel off, ?_, (SameSystem.refl s).farReal sel off, ⟨fun _ _ => rfl, fun _ _ => rfl⟩, rfl,
    (SameSystem.refl s).hidden⟩
  rw [hi.exec_eq, State.jmpFar_real hp]
  rfl

theorem CallsFar.ends_real (h : Canonical s) (hi : CallsFar i s sel off) (hroom : s.stackRoom 2 = true) :
    Ends i s fun t =>
      FarReal s t sel off ∧ t.reg .sp = s.reg .sp - 4 ∧ SameRegsBut s t [.sp] ∧
      HoldsWord s t (s.stackAddr 2) s.cs.sel ∧ HoldsWord s t (s.stackAddr 4) s.nextIp ∧
      SameMemoryBut s t (s.wordCells (s.stackAddr 2) ++ s.wordCells (s.stackAddr 4)) ∧
      t.flags = s.flags ∧ SameHidden s t := by
  have hsys := s.pushes_sameSystem [s.cs.sel, s.nextIp]
  obtain ⟨⟨hholds, hmem, hsp, hregs⟩, -⟩ := State.pushes_frame h [s.cs.sel, s.nextIp] (by simp)
  obtain ⟨hcsLo, hcsHi⟩ := hholds 0 (by simp)
  obtain ⟨hipLo, hipHi⟩ := hholds 1 (by simp)
  refine ⟨(s.pushes [s.cs.sel, s.nextIp]).farJumpReal sel off, ?_, hsys.farReal sel off, hsp, hregs,
    ⟨hcsLo (by simp), hcsHi (by simp)⟩, ⟨hipLo (by simp), hipHi (by simp)⟩, hmem, rfl, hsys.hidden⟩
  rw [hi.exec_eq, State.callFar_real hp hroom]
  rfl

theorem ReturnsFar.ends_real {imm : Word} (hi : ReturnsFar i imm) (hframe : s.checkFrame 2 = .ok ()) :
    Ends i s fun t =>
      FarReal s t (s.stackWord 2) (s.stackWord 0) ∧ t.reg .sp = s.reg .sp + (4 + imm) ∧ SameRegsBut s t [.sp] ∧
      SameMemory s t ∧ t.flags = s.flags ∧ SameHidden s t := by
  have hsys : SameSystem s (s.popBytes (4 + imm)) := SameSystem.refl s
  obtain ⟨hsp, hregs, hmem⟩ := s.setReg_effect .sp (s.reg .sp + (4 + imm))
  refine ⟨s.retFarReal imm, ?_, hsys.farReal _ _, hsp, hregs, hmem, rfl, hsys.hidden⟩
  rw [hi.exec_eq, State.retFar_real hp hframe]
  rfl

end

/-- Settles O26: a form with its pointer in memory runs as the one with the same pointer in the instruction. -/
theorem farTransfersReal : Obligations.FarTransfersReal := by
  intro s h hp
  exact ⟨fun off sel => ⟨JumpsFar.ends_real hp (.inl rfl), CallsFar.ends_real hp h (.inl rfl)⟩,
    fun m hm => ⟨JumpsFar.ends_real hp (.inr ⟨m, rfl, hm, rfl, rfl⟩),
      CallsFar.ends_real hp h (.inr ⟨m, rfl, hm, rfl, rfl⟩)⟩,
    ReturnsFar.ends_real hp (.inr ⟨rfl, rfl⟩), fun w => ReturnsFar.ends_real hp (.inl rfl)⟩

/-! ### Interrupts -/

section
variable {s : State} (hp : InReal s)
include hp

/-- A vector inside the table needs no second delivery (60 R782). -/
theorem State.deliver_real {ev : Event} (hvec : 4 * ev.vec.toNat + 3 ≤ s.idtr.limit.toNat) :
    s.deliver ev = s.enterReal ev.vec ev.retIp := by
  rw [State.deliver, hp, State.deliverReal, if_pos (c := s.inVectorTable ev.vec = true) (decide_eq_true hvec)]
  rfl

/-- The vector table is read after the pushes, which may have changed it (60 R780, R783). -/
theorem State.enterReal_took (h : Canonical s) (hroom : s.stackRoom 3 = true) (n : Byte) (retIp : Word) :
    TookReal s (s.enterReal n retIp) n retIp := by
  have hsys := s.pushes_sameSystem [s.flags.toWord, s.cs.sel, retIp]
  obtain ⟨hframe, -⟩ := State.pushes_frame h [s.flags.toWord, s.cs.sel, retIp] (by simp)
  rw [State.enterReal, pushAllReal_ok [s.flags.toWord, s.cs.sel, retIp] s hp hroom]
  exact ⟨hframe, hsys.farReal _ _, rfl, hsys.hidden.resume⟩

theorem State.softInt_took (h : Canonical s) (hroom : s.stackRoom 3 = true) {n : Byte}
    (hvec : 4 * n.toNat + 3 ≤ s.idtr.limit.toNat) : TookReal s (s.softInt n) n s.nextIp := by
  rw [State.softInt, State.deliver_real hp hvec]
  exact State.enterReal_took hp h hroom n s.nextIp

end

/-- Settles O39: INTO is vector 4 with OF set, and otherwise the end of an instruction that did nothing. -/
theorem softwareInterruptsReal : Obligations.SoftwareInterruptsReal := by
  intro s h hp hroom
  refine ⟨fun hvec => ⟨_, rfl, State.softInt_took hp h hroom hvec⟩,
    fun b hvec => ⟨_, rfl, State.softInt_took hp h hroom hvec⟩, fun hof hvec => ?_, fun hof => ?_⟩
  · exact ⟨s.softInt 4, congrArg Host.Outcome.next (if_pos hof), State.softInt_took hp h hroom hvec⟩
  · exact ⟨s.advance, congrArg Host.Outcome.next (if_neg (Bool.eq_false_iff.1 hof)), s.advance_advanced,
      ⟨fun _ _ => rfl, fun _ _ => rfl⟩, rfl, SameSystem.refl s⟩

/-! ### IRET -/

/-- The state IRET of Real Address Mode leaves (44 R555). -/
def State.afterIretReal (s : State) : State :=
  (((s.popBytes 6).setFlags (s.flags.loadReal (s.stackWord 4))).farJumpReal (s.stackWord 2) (s.stackWord 0)).unmaskNmi

theorem exec_iret_real {s : State} (hp : InReal s) (hframe : s.checkFrame 3 = .ok ()) :
    exec .iret s = .next s.afterIretReal := by
  change finishT s.iret = _
  rw [State.iret, hp, State.iretReal, hframe]
  rfl

/-- Settles O41: the frame is read before SP, CS and FLAGS change. -/
theorem interruptReturnReal : Obligations.InterruptReturnReal := by
  intro s hp hframe w
  have hsys : SameSystem s ((s.popBytes 6).setFlags (s.flags.loadReal w)) := SameSystem.refl s
  obtain ⟨hsp, hregs, hmem⟩ := s.setReg_effect .sp (s.reg .sp + 6)
  exact ⟨_, exec_iret_real hp hframe, hsys.farReal _ _, hsp, hregs, hmem, rfl, hsys.hidden.unmaskNmi⟩

/-! ### INT n and its IRET -/

/-- The bits of FLAGS from bit 0 up, as PUSHF stores them (10 R47, R51). -/
def Flags.bits (f : Flags) : List Bool :=
  [f.cf, true, f.pf, false, f.af, false, f.zf, f.sf, f.tf, f.ief, f.df, f.of, f.iopl.getLsbD 0, f.iopl.getLsbD 1, f.nt,
    false]

theorem Flags.toWord_getLsbD (f : Flags) {i : Nat} (hi : i < 16) : f.toWord.getLsbD i = f.bits[i] := by
  unfold Flags.toWord
  change BitVec.getLsbD (w := 1 + 1 + 2 + 1 + 1 + 1 + 1 + 1 + 1 + 1 + 1 + 1 + 1 + 1 + 1) _ i = _
  simp only [BitVec.getLsbD_append, Flags.bits, bit]
  interval_cases i <;> simp

/-- FLAGS read from the word that they were stored as. -/
theorem Flags.ofWord_toWord (f : Flags) : Flags.ofWord f.toWord = f := by
  have hiopl : f.toWord.extractLsb' 12 2 = f.iopl := by
    apply BitVec.eq_of_getLsbD_eq
    intro i hi
    rw [BitVec.getLsbD_extractLsb', f.toWord_getLsbD (by omega)]
    interval_cases i <;> rfl
  simp only [Flags.ofWord, hiopl, f.toWord_getLsbD, Nat.reduceLT]
  rfl

/-- Settles O42: the three words of the frame read back as INT n pushed them, and IRET loads CS:IP and FLAGS from them;
what INT n changed of FLAGS is not what IRET keeps. -/
theorem interruptThenReturnReal : Obligations.InterruptThenReturnReal := by
  intro s t n h hp hroom hvec hcs hrom hexec
  obtain ⟨-, htakes, -⟩ := softwareInterruptsReal s h hp hroom
  obtain ⟨t', hexec', hframe, hfar, hflags, hhidden⟩ := htakes n hvec
  obtain rfl : t = t' := by simpa [hexec] using hexec'
  obtain ⟨-, -, -, -, -, hss, hds, hes, hmsw, htables⟩ := hfar
  obtain ⟨-, -, -, -, -, -, -, -, -, -, henv⟩ := hhidden
  have hpT : InReal t := by rw [InReal, hmsw]; exact hp
  have hcheck : t.checkFrame 3 = .ok () := hframe.checkFrame hss hmsw hroom
  have hip : t.stackWord 0 = s.nextIp := hframe.stackWord hss hmsw henv hrom (j := 0) (by simp)
  have hsel : t.stackWord 2 = s.cs.sel := hframe.stackWord hss hmsw henv hrom (j := 1) (by simp)
  have hword : t.stackWord 4 = s.flags.toWord := hframe.stackWord hss hmsw henv hrom (j := 2) (by simp)
  obtain ⟨-, hmem, hsp, hregs⟩ := hframe
  obtain ⟨u, hexecU, hfarU, hspU, hregsU, hmemU, hflagsU, -⟩ := interruptReturnReal t hpT hcheck
  obtain rfl : u = t.afterIretReal := by simpa [exec_iret_real hpT hcheck] using hexecU.symm
  obtain ⟨-, -, -, -, hipU, hssU, hdsU, hesU, hmswU, htablesU⟩ := hfarU
  refine ⟨_, hexecU, ?_, hip ▸ hipU, regs_of_released hsp hspU hregs hregsU, ?_, hssU.trans hss, hdsU.trans hds,
    hesU.trans hes, hmswU.trans hmsw, ?_, ?_⟩
  · rw [hcs, ← hsel]
    rfl
  · rw [hflagsU, hword, Flags.ofWord_toWord, hflags]
  · exact htables.trans htablesU
  · exact fun k hk => (hmemU k List.not_mem_nil).trans (hmem k (by simpa using hk))

end Sys2Proof.Machine
end

section
/-!
Flag control (45 R570 to R579, R581, R590). Each form replaces FLAGS, but LAHF, which reads it, and POPF, which also
raises SP.
-/

namespace Sys2Proof.Machine

theorem WroteNothing.of_eq {s t : State} (hregs : t.regs = s.regs) (hmem : t.mem = s.mem) : WroteNothing s t :=
  ⟨fun r _ => congrArg (·.get r) hregs, fun k _ => congrArg (readCell · k) hmem⟩

/-! ### One flag -/

section
variable {i : Instr} {s : State} {f : Flags}

theorem SetsFlags.of_next (he : exec i s = .next (s.setFlags f).advance) : SetsFlags i s f :=
  ⟨_, he, rfl, .of_eq rfl rfl, rfl, SameSystem.refl s⟩

theorem State.checkTrusted_ok (h : s.untrusted = false) : s.checkTrusted = .ok () :=
  (require_ok ..).2 (by rw [h]; rfl)

/-- CLI where the trusted test passes (45 R575). -/
theorem cli_sets (h : s.untrusted = false) : SetsFlags .cli s { s.flags with ief := false } :=
  .of_next (attempt_of_ok (State.checkTrusted_ok h))

/-- STI where the trusted test passes; INTR is held off for one instruction, with IF set already too (45 R576;
92 D27). -/
theorem sti_ends (h : s.untrusted = false) : Ends .sti s fun t =>
    t.flags = { s.flags with ief := true } ∧ WroteNothing s t ∧ t.ip = s.nextIp ∧ SameSystem (s.inhibit .sti) t :=
  ⟨_, attempt_of_ok (State.checkTrusted_ok h), rfl, .of_eq rfl rfl, rfl, SameSystem.refl (s.inhibit .sti)⟩

end

/-! ### LAHF -/

/-- The bits of the low byte of FLAGS, as PUSHF stores it (45 R579). -/
theorem Flags.toWord_lo_getLsbD (f : Flags) {i : Nat} (hi : i < 8) :
    f.toWord.lo.getLsbD i = f.bits[i]'(hi.trans (by decide : 8 < 16)) := by
  have hlow : f.toWord.lo.getLsbD i = f.toWord.getLsbD i := by simp [Word.lo, hi]
  exact hlow.trans (f.toWord_getLsbD (by omega))

theorem lahf_moves (s : State) : MovesEb .lahf s (.reg .ah) s.flags.toWord.lo :=
  ⟨_, rfl, s.setReg8_effect .ah _, rfl, rfl, SameSystem.refl s⟩

/-- Settles O28: all but CLI, STI and LAHF replace FLAGS without a check, NOP by what it was. -/
theorem flagInstructions : Obligations.FlagInstructions := by
  intro s
  have hbit {i : Nat} (hi : i < 8) := s.flags.toWord_lo_getLsbD hi
  exact ⟨.of_next rfl, .of_next rfl, .of_next rfl, .of_next rfl, .of_next rfl, .of_next rfl,
    fun h => ⟨cli_sets h, sti_ends h⟩,
    ⟨s.flags.toWord.lo, lahf_moves s, hbit (by decide), hbit (by decide), hbit (by decide), hbit (by decide),
      hbit (by decide)⟩,
    .of_next rfl⟩

/-! ### POPF -/

theorem State.popFlags_real {s : State} (hp : s.msw.pe = false) (w : Word) : s.popFlags w = s.flags.loadReal w :=
  if_neg (Bool.eq_false_iff.1 hp)

theorem State.popFlags_protected {s : State} (hp : s.msw.pe = true) (w : Word) :
    s.popFlags w = s.flags.loadProt s.cpl w :=
  if_pos hp

/-- Mode and privilege decide over IOPL, IF and NT alone. -/
theorem State.popFlags_eq (s : State) (w : Word) : s.popFlags w = { Flags.ofWord w with
    iopl := (s.popFlags w).iopl, ief := (s.popFlags w).ief, nt := (s.popFlags w).nt } := by
  cases hp : s.msw.pe with
  | false => rw [State.popFlags_real hp]; rfl
  | true => rw [State.popFlags_protected hp]; rfl

/-- Settles O29: the word is read, and FLAGS computed from it, in the state before SP rises. -/
theorem popfLoadsFlags : Obligations.PopfLoadsFlags := by
  intro s hcheck w
  have hload := s.popFlags_eq w
  obtain ⟨hsp, hregs, hmem⟩ := s.setReg_effect .sp (s.reg .sp + 2)
  refine ⟨((s.popBytes 2).setFlags (s.popFlags w)).advance, attempt_of_ok hcheck, congrArg Flags.cf hload,
    congrArg Flags.pf hload, congrArg Flags.af hload, congrArg Flags.zf hload, congrArg Flags.sf hload,
    congrArg Flags.tf hload, congrArg Flags.df hload, congrArg Flags.of hload, fun hp => ?_, fun hp => ?_, hsp, hregs,
    hmem, rfl, SameSystem.refl s⟩
  · have hreal := State.popFlags_real hp w
    exact ⟨congrArg Flags.ief hreal, (congrArg Flags.iopl hreal).trans rfl, (congrArg Flags.nt hreal).trans rfl⟩
  · have hprotected := State.popFlags_protected hp w
    exact ⟨congrArg Flags.nt hprotected, congrArg Flags.iopl hprotected, congrArg Flags.ief hprotected⟩

end Sys2Proof.Machine
end

section
/-!
HLT, WAIT and ESC (45 R591 to R599). An ESC that the extension takes is described in two parts: the state in which it
is handed over, with BUSY drained and the words of the operand before moved, and the hand-over itself.
-/

namespace Sys2Proof.Machine

/-! ### HLT and WAIT -/

theorem State.checkPrivileged_ok {s : State} (h : s.unprivileged = false) : s.checkPrivileged = .ok () :=
  (require_ok ..).2 (by rw [h]; rfl)

/-- HLT where the privileged test passes: IP is at the next instruction already (45 R591). -/
theorem hlt_ends {s : State} (h : s.unprivileged = false) : Ends .hlt s fun t =>
    t.run = .halted ∧ WroteNothing s t ∧ t.flags = s.flags ∧ t.ip = s.nextIp ∧
      SameSystem { s with run := .halted } t :=
  ⟨{ s.advance with run := .halted }, attempt_of_ok (State.checkPrivileged_ok h), rfl, .of_eq rfl rfl, rfl, rfl,
    SameSystem.refl { s with run := .halted }⟩

theorem wait_nm {s : State} (hmp : s.msw.mp = true) (hts : s.msw.ts = true) :
    exec .wait s = .next (s.raise .nm) :=
  if_pos (by rw [hmp, hts]; rfl)

section
variable {s : State} (hnm : s.msw.mp = false ∨ s.msw.ts = false)
include hnm

theorem mp_and_ts_ne_true : ¬(s.msw.mp && s.msw.ts) = true := by
  rcases hnm with h | h <;> simp [h]

/-- A WAIT that finds BUSY inactive tests ERROR, unless EM is set (45 R594; 92 D28). -/
theorem wait_of_idle (hbusy : s.env.ext.busyFor = 0) (hheld : s.env.ext.held = false) :
    exec .wait s = attempt s (require (s.msw.em || !s.env.ext.error) .mf) s.advance :=
  (if_neg (mp_and_ts_ne_true hnm)).trans (if_pos ⟨hbusy, hheld⟩)

/-- A WAIT that finds BUSY active takes one sample of it (log 19). -/
theorem wait_of_busy (hbusy : s.env.ext.busyFor ≠ 0 ∨ s.env.ext.held = true) :
    exec .wait s =
      .next { s.setExt { s.env.ext with busyFor := s.env.ext.busyFor - 1 } with waiting := .wait } :=
  (if_neg (mp_and_ts_ne_true hnm)).trans (if_neg (by
    rintro ⟨hzero, hfree⟩
    exact hbusy.elim (· hzero) fun hheld => Bool.false_ne_true (hfree.symm.trans hheld)))

theorem wait_goesOn (hbusy : s.env.ext.busyFor = 0) (hheld : s.env.ext.held = false)
    (herror : s.msw.em = true ∨ s.env.ext.error = false) : MovesIp .wait s s.nextIp := by
  have hpass : (s.msw.em || !s.env.ext.error) = true := by simpa using herror
  exact ⟨s.advance, (wait_of_idle hnm hbusy hheld).trans (attempt_of_ok ((require_ok ..).2 hpass)), rfl,
    .of_eq rfl rfl, rfl, SameSystem.refl s⟩

theorem wait_mf (hbusy : s.env.ext.busyFor = 0) (hheld : s.env.ext.held = false) (hem : s.msw.em = false)
    (herror : s.env.ext.error = true) : exec .wait s = .next (s.raise .mf) := by
  rw [wait_of_idle hnm hbusy hheld, hem, herror]
  rfl

end

/-! ### The tests an ESC makes -/

/-- The ESC is FNINIT for this extension. -/
def Ext.IsFninit (x : Ext) (op : BitVec 6) (e : Ew) : Prop := (op, e) ∈ x.fninit

/-- The ESC tests neither BUSY nor ERROR of this extension. -/
def Ext.Untested (x : Ext) (op : BitVec 6) (e : Ew) : Prop := op ∈ x.noErrorTest ∨ x.IsFninit op e

section
variable (s : State) (op : BitVec 6) (e : Ew)

theorem State.isFninit_iff : s.isFninit op e = true ↔ s.env.ext.IsFninit op e := List.contains_iff_mem

theorem State.escUntested_iff : s.escUntested op e = true ↔ s.env.ext.Untested op e := by
  rw [State.escUntested, Bool.or_eq_true, s.isFninit_iff, List.contains_iff_mem, Ext.Untested]

theorem State.escHeld_iff : s.escHeld op e = true ↔ s.env.ext.held = true ∧ ¬s.env.ext.IsFninit op e := by
  rw [State.escHeld, Bool.and_eq_true, Bool.not_eq_true', ← Bool.not_eq_true, s.isFninit_iff]

/-- The BUSY wait of an ESC changes nothing but the samples left, after the words of the operand before (45 R596,
R598). -/
theorem State.afterBusy_eq : ∃ b, s.afterBusy op e = s.serviceAll.setExt { s.serviceAll.env.ext with busyFor := b } ∧
    (s.env.ext.Untested op e → b = s.serviceAll.env.ext.busyFor) ∧ (¬s.env.ext.Untested op e → b = 0) := by
  by_cases h : s.env.ext.Untested op e
  · exact ⟨_, if_pos ((s.escUntested_iff op e).2 h), fun _ => rfl, (absurd h ·)⟩
  · exact ⟨0, if_neg (mt (s.escUntested_iff op e).1 h), (absurd · h), fun _ => rfl⟩

/-! ### The hand-over -/

theorem State.handEsc_absent (h : s.env.ext.present = false) : s.handEsc op e = s :=
  if_neg (Bool.eq_false_iff.1 h)

theorem State.handEsc_present (h : s.env.ext.present = true) :
    s.handEsc op e =
      { (s.setExt { s.env.ext with held := s.env.ext.held && !s.isFninit op e }).logIo (.escape (s.escCall op e)) with
        extOp := s.escOperand op e } :=
  if_pos h

/-- Whatever is attached, the hand-over touches the I/O history, the operand and the extension's wait only; an ESC that
it takes leaves an extension that is there not waiting for data. -/
theorem State.handEsc_eq (h : s.escHeld op e = false) : ∃ l q x, s.handEsc op e = { s.setExt x with
    ioLog := l, extOp := q } ∧ x.pereq = s.env.ext.pereq ∧ (s.env.ext.held = false → x.held = false) ∧
      (s.env.ext.present = true → x.held = false) := by
  cases hp : s.env.ext.present with
  | false =>
    exact ⟨s.ioLog, s.extOp, s.env.ext, s.handEsc_absent op e hp, rfl, id, (absurd · Bool.false_ne_true)⟩
  | true => exact ⟨_, _, _, s.handEsc_present op e hp, rfl, fun _ => h, fun _ => h⟩

end

/-- Words moved for the operand before touch memory, the I/O history, vector 9 and the extension's requests and wait. -/
theorem State.Served.frame {s u : State} (h : s.Served u) : u.regs = s.regs ∧ u.flags = s.flags ∧ u.ip = s.ip ∧
    u.nextIp = s.nextIp ∧ u.env.ext.pereq = 0 ∧ u.env.ext.fninit = s.env.ext.fninit ∧
      u.env.ext.present = s.env.ext.present := by
  obtain ⟨m, l, q, p, held, rfl, -⟩ := h
  exact ⟨rfl, rfl, rfl, rfl, rfl, rfl, rfl⟩

/-! ### The ends of an ESC -/

theorem esc_nm {s : State} {op : BitVec 6} {e : Ew} (h : s.msw.em = true ∨ s.msw.ts = true) :
    exec (.esc op e) s = .next (s.raise .nm) :=
  if_pos (Bool.or_eq_true_iff.2 h)

/-- The pins an ESC leaves: BUSY has been waited for only by one that tests it, and the extension waits for data as
`held` says. -/
def PinsAfterEsc (x : Ext) (op : BitVec 6) (e : Ew) (held : Bool) (y : Ext) : Prop :=
  (x.Untested op e → y = { x with held := held }) ∧ (¬x.Untested op e → y = { x with busyFor := 0, held := held })

/-- With no word to move, an ESC waits for BUSY if it tests it. -/
theorem State.afterBusy_idle {s : State} {op : BitVec 6} {e : Ew} (hidle : s.extOp = none ∨ s.env.ext.pereq = 0) :
    ∃ b, s.afterBusy op e = s.setExt { s.env.ext with busyFor := b } ∧
      ∀ held, PinsAfterEsc s.env.ext op e held { s.env.ext with busyFor := b, held := held } := by
  obtain ⟨b, hafter, huntested, htested⟩ := s.afterBusy_eq op e
  rw [State.serviceAll_idle hidle] at hafter huntested
  exact ⟨b, hafter, fun held => ⟨fun h => by rw [huntested h], fun h => by rw [htested h]⟩⟩

/-- The extension takes an ESC while it does not wait for data, and FNINIT always. -/
theorem State.escHeld_of_taken {s : State} {op : BitVec 6} {e : Ew}
    (htaken : s.env.ext.held = false ∨ s.env.ext.IsFninit op e) : s.escHeld op e = false := by
  rw [← Bool.not_eq_true, s.escHeld_iff]
  rintro ⟨hheld, hnot⟩
  exact htaken.elim (fun hfree => Bool.false_ne_true (hfree.symm.trans hheld)) hnot

theorem State.serviceAll_escHeld_of_taken {s : State} {op : BitVec 6} {e : Ew}
    (hidle : s.extOp = none ∨ s.env.ext.pereq = 0) (htaken : s.env.ext.held = false ∨ s.env.ext.IsFninit op e) :
    s.serviceAll.escHeld op e = false := by
  rw [State.serviceAll_idle hidle, State.escHeld_of_taken htaken]

/-- The state in which an ESC has been handed over, with `b` samples of BUSY left. -/
def State.handedOver (s : State) (op : BitVec 6) (e : Ew) (b : Nat) : State :=
  { (s.setExt { s.env.ext with busyFor := b, held := false }).logIo (.escape (s.escCall op e)) with
    extOp := s.escOperand op e }

theorem State.handEsc_handedOver {s : State} {op : BitVec 6} {e : Ew} (hpresent : s.env.ext.present = true)
    (hheld : s.escHeld op e = false) (b : Nat) :
    (s.setExt { s.env.ext with busyFor := b }).handEsc op e = s.handedOver op e b := by
  have hfree : (s.env.ext.held && !(s.setExt { s.env.ext with busyFor := b }).isFninit op e) = false := hheld
  rw [State.handEsc_present (s.setExt { s.env.ext with busyFor := b }) op e hpresent, State.setExt_env, hfree]
  rfl

section
variable {s : State} {op : BitVec 6} {e : Ew} (hem : s.msw.em = false) (hts : s.msw.ts = false)
  (hcheck : s.checkEsc op e = .ok ())
include hem hts hcheck

/-- An ESC that the extension takes moves the words of the operand before, waits for BUSY, and tests ERROR (45 R596,
R598). -/
theorem esc_of_not_held (hheld : s.serviceAll.escHeld op e = false) : exec (.esc op e) s =
    attempt (s.afterBusy op e) (require (s.escUntested op e || !s.env.ext.error) .mf)
      ((s.afterBusy op e).handEsc op e).advance := by
  change escExt s op e = _
  simp [escExt, hem, hts, hcheck, hheld]

theorem esc_completes (hheld : s.serviceAll.escHeld op e = false)
    (herror : s.env.ext.error = false ∨ s.env.ext.Untested op e) :
    exec (.esc op e) s = .next ((s.afterBusy op e).handEsc op e).advance := by
  have hpass : (s.escUntested op e || !s.env.ext.error) = true := by
    rw [Bool.or_eq_true, Bool.not_eq_true', s.escUntested_iff]
    exact herror.symm
  exact (esc_of_not_held hem hts hcheck hheld).trans (attempt_of_ok ((require_ok ..).2 hpass))

/-- While words are still requested, they are moved in the same step, and the ESC then waits if they overran (log 21,
41). -/
theorem esc_after_transfers (hop : s.extOp ≠ none) (herror : s.env.ext.error = false ∨ s.env.ext.Untested op e) :
    Ends (.esc op e) s fun t =>
      t.env.ext.pereq = 0 ∧ SameRegsBut s t [] ∧ t.flags = s.flags ∧
      (s.env.ext.IsFninit op e → t.ip = s.nextIp ∧ (s.env.ext.present = true → t.env.ext.held = false)) ∧
      (¬s.env.ext.IsFninit op e → (t.env.ext.held = true → t.ip = s.ip ∧ t.waiting = .esc) ∧
        (t.env.ext.held = false → t.ip = s.nextIp)) := by
  obtain ⟨hregs, hflags, hip, hnext, hpereq, hfninit, hattached⟩ := (State.serviceAll_spec hop).frame
  have hsame {t : State} (h : t.regs = s.serviceAll.regs) : SameRegsBut s t [] :=
    fun r _ => congrArg (·.get r) (h.trans hregs)
  have hiff := s.serviceAll.escHeld_iff op e
  rw [Ext.IsFninit, hfninit] at hiff
  cases hheld : s.serviceAll.escHeld op e with
  | true =>
    obtain ⟨hheldAfter, hnot⟩ := hiff.1 hheld
    exact ⟨_, escExt_held hem hts hcheck hheld, hpereq, hsame rfl, hflags, (absurd · hnot),
      fun _ => ⟨fun _ => ⟨hip, rfl⟩, fun hfree => absurd (hfree.symm.trans hheldAfter) Bool.false_ne_true⟩⟩
  | false =>
    obtain ⟨b, hafter, -⟩ := s.afterBusy_eq op e
    obtain ⟨l, q, x, hhand, hx, hkeeps, hends⟩ :=
      (s.serviceAll.setExt { s.serviceAll.env.ext with busyFor := b }).handEsc_eq op e hheld
    have hexec := esc_completes hem hts hcheck hheld herror
    rw [hafter, hhand] at hexec
    refine ⟨_, hexec, hx.trans hpereq, hsame rfl, hflags, fun _ => ⟨hnext, fun h => hends (hattached.trans h)⟩,
      fun hnot => ⟨fun hstill => ?_, fun _ => hnext⟩⟩
    have hfree : s.serviceAll.env.ext.held = false := by
      rw [← Bool.not_eq_true]
      exact fun h => absurd (hiff.2 ⟨h, hnot⟩) (Bool.eq_false_iff.1 hheld)
    exact absurd ((hkeeps hfree).symm.trans hstill) Bool.false_ne_true

variable (hidle : s.extOp = none ∨ s.env.ext.pereq = 0)
include hidle

/-- With no word to move, an ESC that cannot be executed waits at its own offset (log 41). -/
theorem esc_waits (hheld : s.env.ext.held = true) (hnot : ¬s.env.ext.IsFninit op e) :
    exec (.esc op e) s = .next { s with waiting := .esc } := by
  have hserved := State.serviceAll_idle hidle
  have hesc : s.serviceAll.escHeld op e = true := by rw [hserved]; exact (s.escHeld_iff op e).2 ⟨hheld, hnot⟩
  have hexec : exec (.esc op e) s = _ := escExt_held hem hts hcheck hesc
  rwa [hserved] at hexec

variable (htaken : s.env.ext.held = false ∨ s.env.ext.IsFninit op e)
include htaken

/-- With no extension attached, an ESC goes on (93 U14). -/
theorem esc_absent (herror : s.env.ext.error = false ∨ s.env.ext.Untested op e) (hpresent : s.env.ext.present = false) :
    Ends (.esc op e) s fun t =>
      WroteNothing s t ∧ t.flags = s.flags ∧ t.ip = s.nextIp ∧
      PinsAfterEsc s.env.ext op e s.env.ext.held t.env.ext ∧
      SameSystem { s with env := { s.env with ext := t.env.ext } } t := by
  obtain ⟨b, hafter, hpins⟩ := State.afterBusy_idle (op := op) (e := e) hidle
  have hexec := esc_completes hem hts hcheck (State.serviceAll_escHeld_of_taken hidle htaken) herror
  rw [hafter, State.handEsc_absent (s.setExt { s.env.ext with busyFor := b }) op e hpresent] at hexec
  exact ⟨_, hexec, .of_eq rfl rfl, rfl, rfl, hpins s.env.ext.held, SameSystem.refl _⟩

/-- An ESC is handed to an extension that is attached, in an entry of the I/O history, with its operand remembered
(45 R596; log 20). -/
theorem esc_present (herror : s.env.ext.error = false ∨ s.env.ext.Untested op e) (hpresent : s.env.ext.present = true) :
    Ends (.esc op e) s fun t =>
      WroteNothing s t ∧ t.flags = s.flags ∧ t.ip = s.nextIp ∧ PinsAfterEsc s.env.ext op e false t.env.ext ∧
      (∀ r, e = .reg r → t.extOp = none) ∧
      (∀ m, e = .mem m → t.extOp = some { seg := s.seg (s.memSeg m), off := (s.ea m).toNat, op := op }) ∧
      (∃ c : EscCall, c.op = op ∧ c.e = e ∧ c.cs = s.cs.sel ∧ c.ip = s.ip ∧
        (∀ r, e = .reg r → c.operand = none) ∧
        (∀ m, e = .mem m → ∃ o, c.operand = some o ∧ o.sel = (s.seg (s.memSeg m)).sel ∧ o.off = s.ea m ∧
          o.addr = s.memAddr m) ∧
        SameSystem { s with
          ioLog := .escape c :: s.ioLog, extOp := t.extOp, env := { s.env with ext := t.env.ext } } t) := by
  obtain ⟨b, hafter, hpins⟩ := State.afterBusy_idle (op := op) (e := e) hidle
  have hexec := esc_completes hem hts hcheck (State.serviceAll_escHeld_of_taken hidle htaken) herror
  rw [hafter, State.handEsc_handedOver hpresent (State.escHeld_of_taken htaken)] at hexec
  refine ⟨_, hexec, .of_eq rfl rfl, rfl, rfl, hpins false, ?_, ?_, s.escCall op e, rfl, rfl, rfl, rfl, ?_, ?_,
    SameSystem.refl _⟩
  · rintro r rfl
    rfl
  · rintro m rfl
    rfl
  · rintro r rfl
    rfl
  · rintro m rfl
    exact ⟨_, rfl, rfl, rfl, rfl⟩

/-- An ESC that tests ERROR and finds it active takes exception 16 after its wait for BUSY (45 R596). -/
theorem esc_mf (herror : s.env.ext.error = true) (htested : ¬s.env.ext.Untested op e) :
    exec (.esc op e) s = .next ((s.setExt { s.env.ext with busyFor := 0 }).raise .mf) := by
  have huntested : s.escUntested op e = false := by rwa [← Bool.not_eq_true, s.escUntested_iff]
  obtain ⟨b, hafter, -, hbusy⟩ := s.afterBusy_eq op e
  rw [esc_of_not_held hem hts hcheck (State.serviceAll_escHeld_of_taken hidle htaken), huntested, herror, hafter,
    State.serviceAll_idle hidle, hbusy htested]
  rfl

end

/-- An ESC that waits, with no word to move, goes through the boundary untouched by any event (60 R794). -/
theorem State.atBoundary_of_esc {s : State} (hwaiting : s.waiting = .esc) (hrun : s.run = .running)
    (hidle : s.extOp = none ∨ s.env.ext.pereq = 0) : s.atBoundary = s := by
  have hreleased : s.released = s := if_neg (by rw [hrun]; decide)
  rw [State.atBoundary_esc hwaiting, hreleased, State.serviceAll_idle hidle]

/-- Settles O33: HLT, WAIT by what it finds on the pins, ESC by whether the extension takes it, and the boundary inside
an ESC. -/
theorem haltWaitEscape : Obligations.HaltWaitEscape := by
  intro s x
  refine ⟨hlt_ends, wait_nm, fun hnm => ⟨wait_goesOn hnm, wait_mf hnm, fun hbusy => ?_⟩, fun op e => esc_nm,
    fun op e hem hts hcheck => ⟨fun hidle => ⟨esc_waits hem hts hcheck hidle, fun htaken => ⟨fun herror => ?_, ?_⟩⟩,
      fun hpending => ?_⟩, State.atBoundary_of_esc⟩
  · exact ⟨_, wait_of_busy hnm hbusy, rfl, rfl, rfl, .of_eq rfl rfl, rfl, SameSystem.refl _⟩
  · exact ⟨esc_absent hem hts hcheck hidle htaken herror, esc_present hem hts hcheck hidle htaken herror⟩
  · exact esc_mf hem hts hcheck hidle htaken
  · exact esc_after_transfers hem hts hcheck fun hnone => hpending (.inl hnone)

end Sys2Proof.Machine
end

section
/-!
Input and output (46 R610 to R612). A transfer that the trusted test lets through changes the history of the I/O space
and, for IN, the accumulator; a word takes one cycle or two as its port is even or odd.
-/

namespace Sys2Proof.Machine

theorem evenPort_of_even {p : Word} (hp : p.toNat % 2 = 0) : evenPort p = true := by
  simp [evenPort, BitVec.getLsbD, Nat.testBit_zero, hp]

theorem evenPort_of_odd {p : Word} (hp : p.toNat % 2 = 1) : evenPort p = false := by
  simp [evenPort, BitVec.getLsbD, Nat.testBit_zero, hp]

section
variable (s : State) {p : Word}

theorem State.inWord_even (hp : p.toNat % 2 = 0) : s.inWord p = (s.withCycles [.readWord p]).setReg .ax
    (wordOf (Config.ioRead s.ioLog (p + 1)) (Config.ioRead s.ioLog p)) := by
  simp only [State.inWord, State.afterPortWord, State.portWord, evenPort_of_even hp, if_true]
  rfl

theorem State.inWord_odd (hp : p.toNat % 2 = 1) :
    s.inWord p = (s.withCycles [.readByte (p + 1), .readByte p]).setReg .ax
      (wordOf (Config.ioRead (.readByte p :: s.ioLog) (p + 1)) (Config.ioRead s.ioLog p)) := by
  simp only [State.inWord, State.afterPortWord, State.portWord, evenPort_of_odd hp]
  rfl

theorem State.outWord_even (hp : p.toNat % 2 = 0) (v : Word) : s.outWord p v = s.withCycles [.writeWord p v] :=
  if_pos (evenPort_of_even hp)

theorem State.outWord_odd (hp : p.toNat % 2 = 1) (v : Word) :
    s.outWord p v = s.withCycles [.writeByte (p + 1) v.hi, .writeByte p v.lo] :=
  if_neg (Bool.eq_false_iff.1 (evenPort_of_odd hp))

end

section
variable {i : Instr} {s : State} {p : Word} (htrusted : s.untrusted = false)
include htrusted

theorem InputsByte.of_attempt (he : exec i s = attempt s s.checkTrusted (s.inByte p).advance) : InputsByte i s p :=
  ⟨_, he.trans (attempt_of_ok (State.checkTrusted_ok htrusted)), s.setReg8_effect .al _, rfl, rfl,
    SameSystem.refl (s.withCycles [.readByte p])⟩

theorem InputsWord.of_attempt (he : exec i s = attempt s s.checkTrusted (s.inWord p).advance) : InputsWord i s p := by
  have hends := he.trans (attempt_of_ok (State.checkTrusted_ok htrusted))
  refine ⟨fun hp => ?_, fun hp => ?_⟩
  · rw [s.inWord_even hp] at hends
    exact ⟨_, hends, s.setReg_effect .ax _, rfl, rfl, SameSystem.refl (s.withCycles _)⟩
  · rw [s.inWord_odd hp] at hends
    exact ⟨_, hends, s.setReg_effect .ax _, rfl, rfl, SameSystem.refl (s.withCycles _)⟩

theorem Outputs.of_attempt {t : State} {l : List IoCycle} (ht : t = s.withCycles l)
    (he : exec i s = attempt s s.checkTrusted t.advance) : Outputs i s l := by
  subst ht
  exact ⟨_, he.trans (attempt_of_ok (State.checkTrusted_ok htrusted)), .of_eq rfl rfl, rfl, rfl,
    SameSystem.refl (s.withCycles l)⟩

theorem OutputsWord.of_attempt (he : exec i s = attempt s s.checkTrusted (s.outWord p (s.reg .ax)).advance) :
    OutputsWord i s p :=
  ⟨fun hp => .of_attempt htrusted (s.outWord_even hp _) he, fun hp => .of_attempt htrusted (s.outWord_odd hp _) he⟩

end

/-- Settles O32: the port is that of the byte in the instruction, or DX. -/
theorem inputOutput : Obligations.InputOutput := by
  intro s h
  exact ⟨fun b => ⟨.of_attempt h rfl, .of_attempt h rfl, .of_attempt h rfl rfl, .of_attempt h rfl⟩,
    .of_attempt h rfl, .of_attempt h rfl, .of_attempt h rfl rfl, .of_attempt h rfl⟩

end Sys2Proof.Machine
end

section
/-!
The extended instructions (46 R620 to R622, R624, R625). PUSHA and ENTER are rows of pushes, so what they leave is the
frame of such a row (`State.pushes_frame`); POPA is a row of pops.
-/

namespace Sys2Proof.Machine

/-! ### PUSHA -/

theorem State.stackRoom_iff (s : State) (k : Nat) : s.stackRoom k = true ↔
    s.segUsable .ss = true ∧ ∀ i < k, s.inLimit s.ss (s.spDown (BitVec.ofNat 16 (2 * (i + 1)))) 2 = true := by
  rw [State.stackRoom, State.room, Bool.and_eq_true, allBelow_iff]
  rfl

theorem State.checkFrame_iff (s : State) (k : Nat) : s.checkFrame k = .ok () ↔
    s.segUsable .ss = true ∧ ∀ i < k, s.inLimit s.ss (s.reg .sp + BitVec.ofNat 16 (2 * i)) 2 = true := by
  rw [State.checkFrame, require_ok, Bool.and_eq_true, allBelow_iff]

/-- Two words inside the stack segment pass the test of both ends in either mode. -/
theorem State.checkEnds_of_inLimit {s : State} {a b : Word} (husable : s.segUsable .ss = true)
    (ha : s.inLimit s.ss a 2 = true) (hb : s.inLimit s.ss b 2 = true) : s.checkEnds a b = .ok () := by
  rw [State.checkEnds, require_ok, State.stackWordIn, State.stackWordIn, husable, ha, hb]
  exact Bool.or_true _

theorem exec_pusha {s : State} (hroom : s.stackRoom 8 = true) (hrights : s.segRights .ss true = true) :
    exec .pusha s = .next (s.pushes s.pushaWords).advance := by
  obtain ⟨husable, hwords⟩ := (s.stackRoom_iff 8).1 hroom
  have hends : s.checkEnds (s.spDown 2) (s.spDown 16) = .ok () :=
    State.checkEnds_of_inLimit husable (hwords 0 (by decide)) (hwords 7 (by decide))
  change pushAll s = _
  rw [pushAll, hends, pushUntil_ok s.pushaWords s hrights hroom]

/-- What a row of pushes leaves alone. -/
theorem State.pushes_rest (s : State) (l : List Word) :
    (s.pushes l).flags = s.flags ∧ (s.pushes l).nextIp = s.nextIp ∧ SameSystem s (s.pushes l) := by
  refine ⟨?_, ?_, s.pushes_sameSystem l⟩
  · rw [State.pushes_eq]
  · rw [State.pushes_eq]
    rfl

/-- An instruction that is a row of pushes leaves the frame of that row. -/
theorem Ends.of_pushes {i : Instr} {s : State} (h : Canonical s) {l : List Word} (hl : l.length < 2 ^ 15 - 1)
    (he : exec i s = .next (s.pushes l).advance) : Ends i s fun t =>
      FramePushed s t l [] ∧ t.flags = s.flags ∧ t.ip = s.nextIp ∧ SameSystem s t := by
  obtain ⟨hframe, -⟩ := State.pushes_frame h l hl
  exact ⟨_, he, hframe, s.pushes_rest l⟩

/-! ### POPA -/

/-- A row of pops, into a register or into nothing each. -/
def State.pops (s : State) : List (Option Reg16) → State
  | [] => s
  | r :: l => (s.popInto r).pops l

/-- A pop changes registers only. -/
theorem State.popInto_eq (s : State) (r : Option Reg16) : s.popInto r = { s with regs := (s.popInto r).regs } := by
  cases r <;> rfl

theorem State.pops_eq (l : List (Option Reg16)) : ∀ s : State, s.pops l = { s with regs := (s.pops l).regs } := by
  induction l with
  | nil => exact fun s => rfl
  | cons r l ih =>
    intro s
    rw [State.pops, ih, s.popInto_eq]

section
variable (s : State) {r : Option Reg16} (hr : r ≠ some .sp)

theorem State.popInto_reg_same (q : Reg16) : (s.popInto (some q)).reg q = s.stackWord 0 := State.setReg_reg_same ..

theorem State.popInto_reg_ne {q : Reg16} (hq : q ≠ .sp) (hqr : r ≠ some q) : (s.popInto r).reg q = s.reg q := by
  cases r with
  | none => exact s.setReg_reg_ne hq _
  | some p =>
    have hqp : q ≠ p := fun h => hqr (congrArg some h.symm)
    exact (State.setReg_reg_ne _ hqp _).trans (s.setReg_reg_ne hq _)

include hr

theorem State.popInto_sp : (s.popInto r).reg .sp = s.reg .sp + 2 := by
  cases r with
  | none => exact State.setReg_reg_same ..
  | some p =>
    have hp : Reg16.sp ≠ p := fun h => hr (congrArg some h.symm)
    exact (State.setReg_reg_ne _ hp _).trans (State.setReg_reg_same ..)

/-- After a pop the words on the stack are two bytes nearer. -/
theorem State.popInto_sp_add (k : Nat) :
    (s.popInto r).reg .sp + BitVec.ofNat 16 (2 * k) = s.reg .sp + BitVec.ofNat 16 (2 * (k + 1)) := by
  have htwo : BitVec.ofNat 16 (2 * (k + 1)) = 2 + BitVec.ofNat 16 (2 * k) := by
    rw [Nat.mul_succ, Nat.add_comm]
    exact BitVec.ofNat_add ..
  rw [s.popInto_sp hr, htwo, BitVec.add_assoc]

theorem State.popInto_stackWord (k : Nat) :
    (s.popInto r).stackWord (BitVec.ofNat 16 (2 * k)) = s.stackWord (BitVec.ofNat 16 (2 * (k + 1))) := by
  rw [State.stackWord, s.popInto_sp_add hr, s.popInto_eq]
  rfl

theorem State.popInto_checkFrame {k : Nat} (hframe : s.checkFrame (k + 1) = .ok ()) :
    (s.popInto r).checkFrame k = .ok () := by
  obtain ⟨husable, hwords⟩ := (s.checkFrame_iff _).1 hframe
  refine (State.checkFrame_iff ..).2 ⟨?_, fun i hi => ?_⟩
  · rw [s.popInto_eq]
    exact husable
  · rw [s.popInto_sp_add hr, s.popInto_eq]
    exact hwords (i + 1) (by omega)

end

/-- The lowest word of a frame is the one that a pop reads. -/
theorem State.checkFrame_first {s : State} {k : Nat} (hframe : s.checkFrame (k + 1) = .ok ()) :
    s.segUsable .ss = true ∧ s.inLimit s.ss (s.reg .sp) 2 = true := by
  obtain ⟨husable, hwords⟩ := (s.checkFrame_iff _).1 hframe
  exact ⟨husable, by simpa using hwords 0 (Nat.succ_pos k)⟩

/-- Pops that find every word in a readable stack segment. -/
theorem popUntil_ok (l : List (Option Reg16)) (hsp : some .sp ∉ l) : ∀ s : State, s.segRights .ss false = true →
    s.checkFrame l.length = .ok () → popUntil l s = .ok (s.pops l) := by
  induction l with
  | nil => exact fun s _ _ => rfl
  | cons r l ih =>
    intro s hrights hframe
    obtain ⟨hr, hl⟩ := not_or.1 (List.mem_cons.not.1 hsp)
    obtain ⟨husable, hfirst⟩ := State.checkFrame_first hframe
    have hcheck : s.check .ss (s.reg .sp) 2 false = .ok () := (s.check_ok ..).2 ⟨husable, hrights, hfirst⟩
    have hrights' : (s.popInto r).segRights .ss false = true := by
      rw [s.popInto_eq]
      exact hrights
    rw [popUntil, hcheck]
    exact ih hl _ hrights' (s.popInto_checkFrame (Ne.symm hr) hframe)

theorem State.pops_sp (l : List (Option Reg16)) (hsp : some .sp ∉ l) :
    ∀ s : State, (s.pops l).reg .sp = s.reg .sp + BitVec.ofNat 16 (2 * l.length) := by
  induction l with
  | nil => exact fun s => (BitVec.add_zero _).symm
  | cons r l ih =>
    intro s
    obtain ⟨hr, hl⟩ := not_or.1 (List.mem_cons.not.1 hsp)
    rw [State.pops, ih hl, s.popInto_sp_add (Ne.symm hr), List.length_cons]

/-- A register that no pop of the row loads. -/
theorem State.pops_reg_of_not_mem {q : Reg16} (hq : q ≠ .sp) (l : List (Option Reg16)) (hl : some q ∉ l) :
    ∀ s : State, (s.pops l).reg q = s.reg q := by
  induction l with
  | nil => exact fun s => rfl
  | cons r l ih =>
    intro s
    obtain ⟨hr, hl⟩ := not_or.1 (List.mem_cons.not.1 hl)
    rw [State.pops, ih hl, s.popInto_reg_ne hq (Ne.symm hr)]

/-- The register of the `i`-th pop gets the `i`-th word of the stack, if no later pop loads it again. -/
theorem State.pops_reg {q : Reg16} (l : List (Option Reg16)) (hsp : some .sp ∉ l) (hnodup : l.Nodup) :
    ∀ (s : State) (i : Nat), l[i]? = some (some q) → (s.pops l).reg q = s.stackWord (BitVec.ofNat 16 (2 * i)) := by
  induction l with
  | nil => exact fun s i hi => absurd hi (by simp)
  | cons r l ih =>
    intro s i hi
    obtain ⟨hr, hl⟩ := not_or.1 (List.mem_cons.not.1 hsp)
    obtain ⟨hrl, hnodupL⟩ := List.nodup_cons.1 hnodup
    cases i with
    | zero =>
      obtain rfl : r = some q := by simpa using hi
      have hq : q ≠ .sp := fun h => hr (congrArg some h.symm)
      rw [State.pops, State.pops_reg_of_not_mem hq l hrl, s.popInto_reg_same]
      rfl
    | succ i => rw [State.pops, ih hl hnodupL _ i (by simpa using hi), s.popInto_stackWord (Ne.symm hr)]

theorem exec_popa {s : State} (hframe : s.checkFrame 8 = .ok ()) (hrights : s.segRights .ss false = true) :
    exec .popa s = .next (s.pops popaRegs).advance := by
  obtain ⟨husable, hfirst⟩ := State.checkFrame_first hframe
  obtain ⟨-, hwords⟩ := (s.checkFrame_iff 8).1 hframe
  have hends : s.checkEnds (s.reg .sp) (s.reg .sp + 14) = .ok () :=
    State.checkEnds_of_inLimit husable hfirst (hwords 7 (by decide))
  change popAll s = _
  rw [popAll, hends, popUntil_ok popaRegs (by decide) s hrights hframe]

/-- Settles O34: the words of PUSHA are read before SP changes; POPA loads each register once, and SP not at all. -/
theorem pushAllPopAll : Obligations.PushAllPopAll := by
  intro s h
  refine ⟨fun hroom hrights => .of_pushes h (by decide : 8 < 2 ^ 15 - 1) (exec_pusha hroom hrights),
    fun hframe hrights => ?_⟩
  have hword {i : Nat} {q : Reg16} (hi : popaRegs[i]? = some (some q)) :
      (s.pops popaRegs).reg q = s.stackWord (BitVec.ofNat 16 (2 * i)) :=
    State.pops_reg popaRegs (by decide) (by decide) s i hi
  have hsp : (s.pops popaRegs).reg .sp = s.reg .sp + 16 := State.pops_sp popaRegs (by decide) s
  have hrest := State.pops_eq popaRegs s
  refine ⟨_, exec_popa hframe hrights, hword (i := 0) rfl, hword (i := 1) rfl, hword (i := 2) rfl, hsp,
    hword (i := 4) rfl, hword (i := 5) rfl, hword (i := 6) rfl, hword (i := 7) rfl, ?_⟩
  rw [hrest]
  exact ⟨fun _ _ => rfl, rfl, rfl, SameSystem.refl s⟩

/-! ### ENTER -/

/-- The words that ENTER of level `level` pushes: BP, the display below it, each word read when those before it have
been pushed, and the frame pointer (46 R624). -/
structure EnterFrame (s : State) (level : Nat) (l : List Word) : Prop where
  length : l.length = if level = 0 then 1 else level + 1
  caller : l[0]? = some (s.reg .bp)
  display : ∀ i, 1 ≤ i → i < level →
    l[i]? = some ((s.pushes (l.take i)).peek16 .ss (s.reg .bp - BitVec.ofNat 16 (2 * i)))
  pointer : level ≠ 0 → l[level]? = some (s.spDown 2)

/-- The copy of the display is a row of pushes, each of the word read after those before it. -/
theorem enterCopy_eq_pushes : ∀ (k : Nat) (p : Word) (s : State), ∃ l : List Word, l.length = k ∧
    enterCopy k p s = s.pushes l ∧
    ∀ i < k, l[i]? = some ((s.pushes (l.take i)).peek16 .ss (p - BitVec.ofNat 16 (2 * (i + 1))))
  | 0, _, _ => ⟨[], rfl, rfl, fun _ hi => absurd hi (Nat.not_lt_zero _)⟩
  | k + 1, p, s => by
    obtain ⟨l, hlength, hcopy, hwords⟩ := enterCopy_eq_pushes k (p - 2) (s.push (s.peek16 .ss (p - 2)))
    refine ⟨s.peek16 .ss (p - 2) :: l, congrArg Nat.succ hlength, hcopy, fun i hi => ?_⟩
    cases i with
    | zero => rfl
    | succ i =>
      have hword := hwords i (by omega)
      rw [sub_two_sub] at hword
      exact hword

/-- ENTER is a row of pushes and the writes of BP and SP. -/
theorem State.enter_eq (s : State) (w : Word) (b : Byte) : ∃ l, EnterFrame s (enterLevel b) l ∧
    s.enter w b = ((s.pushes l).setReg .bp (s.spDown 2)).setReg .sp ((s.pushes l).reg .sp - w) := by
  rw [State.enter]
  cases enterLevel b with
  | zero => exact ⟨[s.reg .bp], ⟨rfl, rfl, fun i _ hi => absurd hi (Nat.not_lt_zero i), fun hne => absurd rfl hne⟩, rfl⟩
  | succ n =>
    obtain ⟨l, hlength, hcopy, hwords⟩ := enterCopy_eq_pushes n (s.reg .bp) (s.push (s.reg .bp))
    refine ⟨s.reg .bp :: (l ++ [s.spDown 2]), ⟨by simp [hlength], rfl, fun i hpos hi => ?_, fun _ => ?_⟩, ?_⟩
    · obtain ⟨j, rfl⟩ := Nat.exists_eq_add_of_le' hpos
      have hj : j < l.length := by omega
      rw [List.getElem?_cons_succ, List.getElem?_append_left hj, List.take_succ_cons,
        List.take_append_of_le_length hj.le]
      exact hwords j (by omega)
    · rw [List.getElem?_cons_succ, ← hlength, List.getElem?_concat_length]
    · rw [State.pushes, State.pushes_append, ← hcopy]
      rfl

theorem EnterFrame.length_lt {s : State} {b : Byte} {l : List Word} (hframe : EnterFrame s (enterLevel b) l) :
    l.length < 2 ^ 15 - 1 := by
  have hlevel : enterLevel b < 32 := Nat.mod_lt _ (by decide)
  rw [hframe.length]
  split <;> omega

/-- A word of a pushed frame, by its place. -/
theorem FrameHolds.holdsWord {s t : State} {l : List Word} (h : FrameHolds s t l []) {i : Nat} {v : Word}
    (hi : l[i]? = some v) : HoldsWord s t (s.stackAddr (BitVec.ofNat 16 (2 * (i + 1)))) v := by
  obtain ⟨hlt, rfl⟩ := List.getElem?_eq_some_iff.1 hi
  obtain ⟨hlo, hhi⟩ := h i hlt
  exact ⟨hlo List.not_mem_nil, hhi List.not_mem_nil⟩

/-- The cells of fewer words below SP are among those of more. -/
theorem State.belowCells_mono (s : State) {j k : Nat} (hjk : j ≤ k) {a : Nat} (ha : a ∈ s.belowCells j) :
    a ∈ s.belowCells k := by
  obtain ⟨i, hi, hcell⟩ := List.mem_flatMap.1 ha
  exact List.mem_flatMap.2 ⟨i, List.mem_range.2 ((List.mem_range.1 hi).trans_le hjk), hcell⟩

/-- A word outside the cells below SP reads the same after a row of pushes. -/
theorem State.pushes_peek16 {s : State} (h : Canonical s) {l : List Word} (hl : l.length < 2 ^ 15 - 1) {r : SReg}
    {off : Word} (hoff : ∀ k ∈ s.wordCells (s.linear r off), k ∉ s.belowCells l.length) :
    (s.pushes l).peek16 r off = s.peek16 r off := by
  obtain ⟨⟨-, hmem, -, -⟩, -⟩ := State.pushes_frame h l hl
  have hcell {k : Nat} (hk : k ∈ s.wordCells (s.linear r off)) : readCell (s.pushes l).mem k = readCell s.mem k :=
    hmem k (by simpa using hoff k hk)
  have hmsw : (s.pushes l).msw = s.msw := by rw [State.pushes_eq]
  have henv : (s.pushes l).env = s.env := by rw [State.pushes_eq]
  have haddr : (s.pushes l).linear r off = s.linear r off := by rw [State.linear, State.pushes_seg, State.linear]
  rw [State.peek16, haddr]
  exact State.readWord_congr _ hmsw henv (hcell List.mem_cons_self) (hcell (List.mem_cons_of_mem _ List.mem_cons_self))

/-- A display word is as it was before ENTER where the frame does not overlap it. -/
theorem EnterFrame.display_unchanged {s : State} (h : Canonical s) {level : Nat} {l : List Word}
    (hframe : EnterFrame s level l) (hl : l.length < 2 ^ 15 - 1) {i : Nat} (hpos : 1 ≤ i) (hi : i < level)
    (hoff : ∀ k ∈ s.wordCells (s.linear .ss (s.reg .bp - BitVec.ofNat 16 (2 * i))), k ∉ s.belowCells l.length) :
    l[i]? = some (s.peek16 .ss (s.reg .bp - BitVec.ofNat 16 (2 * i))) := by
  have htake : (l.take i).length ≤ l.length := List.length_take_le' ..
  rw [hframe.display i hpos hi, State.pushes_peek16 h (htake.trans_lt hl)]
  exact fun k hk hbelow => hoff k hk (s.belowCells_mono htake hbelow)

/-! ### LEAVE and BOUND -/

/-- Two registers written, no other changed. -/
theorem State.setReg_setReg_effect (s : State) {q r : Reg16} (hqr : q ≠ r) (v w : Word) :
    ((s.setReg q v).setReg r w).reg q = v ∧ ((s.setReg q v).setReg r w).reg r = w ∧
      SameRegsBut s ((s.setReg q v).setReg r w) [q, r] := by
  refine ⟨?_, State.setReg_reg_same .., fun p hp => ?_⟩
  · rw [State.setReg_reg_ne _ hqr, State.setReg_reg_same]
  · exact s.setReg_setReg_reg_ne (List.ne_of_not_mem_cons hp)
      (List.ne_of_not_mem_cons (List.not_mem_of_not_mem_cons hp)) v w

/-- The word of BP is read from the old frame, so the order of the two writes does not matter (46 R625). -/
theorem exec_leave {s : State} (hc : s.check .ss (s.reg .bp) 2 false = .ok ()) : exec .leave s =
    .next ((s.setReg .bp (s.peek16 .ss (s.reg .bp))).setReg .sp (s.reg .bp + 2)).advance :=
  attempt_of_ok hc

/-- BOUND goes on, or takes interrupt 5 (46 R622). -/
theorem boundRwMd_ends {s : State} {r : Reg16} {m : MemRef} (hc : s.checkMem m 4 false = .ok ()) :
    let inside := (s.memWord (.mem m) 0).toInt ≤ (s.reg r).toInt ∧ (s.reg r).toInt ≤ (s.memWord (.mem m) 2).toInt
    (inside → MovesIp (.boundRwMd r (.mem m)) s s.nextIp) ∧
    (¬inside → exec (.boundRwMd r (.mem m)) s = .next (s.raise .br)) := by
  intro inside
  have hiff : s.inBounds r (.mem m) = true ↔ inside := by
    rw [State.inBounds, Bool.and_eq_true, decide_eq_true_eq, decide_eq_true_eq]
  have hexec : exec (.boundRwMd r (.mem m)) s = attempt s (require (s.inBounds r (.mem m)) .br) s.advance :=
    congrArg (attempt s · s.advance) (bind_of_ok hc)
  refine ⟨fun hin => ?_, fun hout => ?_⟩
  · exact ⟨_, hexec.trans (attempt_of_ok ((require_ok ..).2 (hiff.2 hin))), rfl, .of_eq rfl rfl, rfl, SameSystem.refl s⟩
  · exact hexec.trans (attempt_of_error (by rw [require_eq, if_pos (Bool.eq_false_iff.2 (hiff.not.2 hout))]))

/-- Settles O35: memory after ENTER is that after its row of pushes, BP is set to the place of the first of them, and SP
lies the bytes asked below the last. -/
theorem enterLeaveBound : Obligations.EnterLeaveBound := by
  intro s h
  refine ⟨fun w b hc => ?_, fun hc => ?_, fun r m hc => boundRwMd_ends hc⟩
  · intro level words
    obtain ⟨l, hframe, henter⟩ := s.enter_eq w b
    have hwords : l.length = words := hframe.length
    have hshort := hframe.length_lt
    obtain ⟨⟨hholds, hmem, hsp, hregs⟩, -⟩ := State.pushes_frame h l hshort
    obtain ⟨hflags, hip, hsys⟩ := s.pushes_rest l
    have hcaller : HoldsWord s (s.pushes l) (s.stackAddr 2) (s.reg .bp) := hholds.holdsWord (i := 0) hframe.caller
    have hexec : exec (.enterDwDb w b) s = .next (s.enter w b).advance := attempt_of_ok hc
    rw [henter] at hexec
    obtain ⟨hbp, hspEnd, hregsEnd⟩ := (s.pushes l).setReg_setReg_effect (q := .bp) (r := .sp) (by decide)
      (s.spDown 2) ((s.pushes l).reg .sp - w)
    rw [hwords] at hmem hsp
    refine ⟨_, hexec, hbp, hspEnd.trans (congrArg (· - w) hsp), fun r hr => ?_, ?_, hcaller, fun hlevel => ?_,
      fun i hpos hi hoff => ?_, hflags, hip, hsys⟩
    · exact (hregsEnd r hr).trans (hregs r (List.not_mem_of_not_mem_cons hr))
    · rwa [List.append_nil] at hmem
    · have hlast := hholds.holdsWord (hframe.pointer hlevel)
      simp only [words, if_neg hlevel]
      exact hlast
    · exact hholds.holdsWord (hframe.display_unchanged h hshort hpos hi (hwords ▸ hoff))
  · obtain ⟨hbp, hsp, hregs⟩ := s.setReg_setReg_effect (q := .bp) (r := .sp) (by decide)
      (s.peek16 .ss (s.reg .bp)) (s.reg .bp + 2)
    exact ⟨_, exec_leave hc, hbp, hsp, hregs, fun _ _ => rfl, rfl, rfl, SameSystem.refl s⟩

end Sys2Proof.Machine
end

section
/-!
The privilege tests of Protected Mode (60 R845, R846): which instructions they stop before anything else happens, and
what that leaves to the levels other than 0.
-/

namespace Sys2Proof.Machine

/-! ### Trusted instructions -/

section
variable {s : State} (h : s.untrusted = true)
include h

theorem State.checkTrusted_error : s.checkTrusted = .error (.gp 0) := by
  rw [State.checkTrusted, h]
  rfl

/-- INS and OUTS make the trusted test before they look at CX or at an operand, in the state before (46 R610). -/
theorem strRun_untrusted {op : StrOp} (hio : op.isIo = true) (wide : Bool) (rep : Option Rep) :
    strRun s op wide rep = .next (s.raise (.gp 0)) := by
  have hstate : s.strFaultState op wide = s := by
    rw [State.strFaultState, State.strLimitFault, hio, h]
    rfl
  have hcheck : s.checkStr op wide rep = .error (.gp 0) := by
    rw [State.checkStr, hio, if_pos rfl, State.checkTrusted_error h]
    rfl
  rw [strRun, hstate, hcheck]
  rfl

/-- LOCK is tested after the length and the validity of its instruction, before the instruction's own checks. -/
theorem runMain_lock_untrusted {i : Instr} (hlock : s.cur.lock = true) (hlen : s.cur.len ≤ 10)
    (hvalid : invalidForm s.msw.pe i = false) : runMain i s = .next (s.raise (.gp 0)) := by
  rw [runMain, if_neg (Nat.not_lt.2 hlen), hvalid, if_neg Bool.false_ne_true, hlock, h]
  rfl

end

/-- Settles O30: CLI, STI, IN and OUT make the trusted test first, INS and OUTS inside the string primitive, and LOCK
in front of its instruction. -/
theorem trustedInstructions : Obligations.TrustedInstructions := by
  intro s hp hlevel
  have h : s.untrusted = true := by rw [State.untrusted, hp, Bool.true_and, decide_eq_true hlevel]
  have refused {t : State} : attempt s s.checkTrusted t = .next (s.raise (.gp 0)) :=
    attempt_of_error (State.checkTrusted_error h)
  refine ⟨fun i hi => ?_, fun b i hi => ?_, fun op wide hop => ?_, fun i hlock hlen hvalid => ?_⟩
  · fin_cases hi <;> exact refused
  · fin_cases hi <;> exact refused
  · have hio : op.isIo = true := by obtain rfl | rfl := hop <;> rfl
    exact ⟨(execPlain s op wide).trans (strRun_untrusted h hio ..),
      fun i r hi => hi.exec_eq.trans (strRun_untrusted h hio ..)⟩
  · exact runMain_lock_untrusted h hlock hlen (hp ▸ hvalid)

/-! ### Privileged instructions -/

section
variable {s : State} (hp : s.msw.pe = true) (hlevel : s.cpl ≠ 0)
include hp hlevel

theorem State.checkPrivileged_error : s.checkPrivileged = .error (.gp 0) := by
  have h : s.unprivileged = true := by rw [State.unprivileged, hp, Bool.true_and, bne_iff_ne]; exact hlevel
  rw [State.checkPrivileged, h]
  rfl

/-- A meaning whose first check is the privileged test. -/
theorem attempt_unprivileged {t : State} {k : Unit → Except Exn Unit} :
    attempt s (s.checkPrivileged >>= k) t = .next (s.raise (.gp 0)) :=
  attempt_bind_of_error (State.checkPrivileged_error hp hlevel)

/-- A check that passes in front of the privileged test does not matter. -/
theorem attempt_then_unprivileged {t : State} {c : Except Exn Unit} {k : Unit → Except Exn Unit} (hc : c = .ok ()) :
    attempt s (c >>= fun _ => s.checkPrivileged >>= k) t = .next (s.raise (.gp 0)) := by
  subst hc
  exact attempt_unprivileged hp hlevel

end

/-- Settles O31: what Protected Mode recognises, or what has its operand in memory, comes to the privileged test next
and stops there. -/
theorem privilegedInstructions : Obligations.PrivilegedInstructions := by
  intro s hp hlevel
  have hpm : s.checkPm = .ok () := (require_ok ..).2 hp
  have refused {t : State} : attempt s s.checkPrivileged t = .next (s.raise (.gp 0)) :=
    attempt_of_error (State.checkPrivileged_error hp hlevel)
  exact ⟨refused, refused,
    fun e => ⟨attempt_unprivileged hp hlevel, attempt_then_unprivileged hp hlevel hpm,
      attempt_then_unprivileged hp hlevel hpm⟩,
    fun m => ⟨attempt_then_unprivileged hp hlevel rfl, attempt_then_unprivileged hp hlevel rfl⟩⟩

/-- At a level other than 0 the instructions that load the system registers end in an exception: #UD for LGDT and LIDT
of a register, and otherwise #GP(0). -/
theorem exec_raises_of_loadsSystem {s : State} (hp : s.msw.pe = true) (hlevel : s.cpl ≠ 0) {i : Instr}
    (hi : loadsSystem i = true) : ∃ x, exec i s = .next (s.raise x) := by
  obtain ⟨-, -, hregs, htables⟩ := privilegedInstructions s hp hlevel
  cases i with
  | lgdtM e =>
    cases e with
    | reg r => exact ⟨.ud, rfl⟩
    | mem m => exact ⟨_, (htables m).1⟩
  | lidtM e =>
    cases e with
    | reg r => exact ⟨.ud, rfl⟩
    | mem m => exact ⟨_, (htables m).2⟩
  | lmswEw e => exact ⟨_, (hregs e).1⟩
  | _ => cases hi

/-- Settles O58: an instruction that loads a system register does not complete at such a level, and every other one,
like the exception taken instead, keeps what all shared operations keep. -/
theorem onlyLevelZeroSetsTheSystem : Obligations.OnlyLevelZeroSetsTheSystem := by
  intro s t i hp hlevel hexec
  have hkept : Kept s t := by
    cases hi : loadsSystem i with
    | false => exact exec_kept hi s t hexec
    | true =>
      obtain ⟨x, hx⟩ := exec_raises_of_loadsSystem hp hlevel hi
      cases hexec.symm.trans hx
      exact s.raise_kept x
  exact ⟨hkept.gdtr, hkept.idtr, hkept.pe.trans hp, hkept.mp, hkept.em⟩

end Sys2Proof.Machine
end

section
/-!
SUPPORT. Stores one after the other: what a row of them may have changed, what an earlier one has left where the later
ones do not reach, and the states between which all this is the same.
-/

namespace Sys2Proof.Machine

/-! ### Memory besides some cells -/

theorem SameMemoryBut.refl (s : State) (l : List Nat) : SameMemoryBut s s l := fun _ _ => rfl

theorem SameMemoryBut.of_mem_eq {s t : State} (h : t.mem = s.mem) (l : List Nat) : SameMemoryBut s t l := fun _ _ => by
  rw [h]

theorem SameMemoryBut.mono {s t : State} {l k : List Nat} (h : SameMemoryBut s t l) (hlk : l ⊆ k) :
    SameMemoryBut s t k := fun a ha => h a fun hl => ha (hlk hl)

theorem SameMemoryBut.trans {s t u : State} {l k : List Nat} (h : SameMemoryBut s t l) (g : SameMemoryBut t u k) :
    SameMemoryBut s u (l ++ k) := fun a ha => by
  obtain ⟨hl, hk⟩ : a ∉ l ∧ a ∉ k := by simpa using ha
  rw [g a hk, h a hl]

/-! ### What a later store does not reach -/

theorem HoldsByte.keep {s t u : State} {a : Nat} {v : Byte} {l : List Nat} (h : HoldsByte s t a v)
    (g : SameMemoryBut t u l) (ha : a ∉ l) : HoldsByte s u a v := fun hrom => (g a ha).trans (h hrom)

theorem HoldsWord.but {s t : State} {a : Addr} {v : Word} (h : HoldsWord s t a v) (x : List Nat) :
    HoldsWordBut s t a v x := by
  obtain ⟨hlo, hhi⟩ := h
  exact ⟨fun _ => hlo, fun _ => hhi⟩

theorem HoldsWordBut.keep {s t u : State} {a : Addr} {v : Word} {x l k : List Nat} (h : HoldsWordBut s t a v x)
    (g : SameMemoryBut t u l) (hx : x ⊆ k) (hl : l ⊆ k) : HoldsWordBut s u a v k := by
  obtain ⟨hlo, hhi⟩ := h
  exact ⟨fun ha => (hlo fun h => ha (hx h)).keep g fun h => ha (hl h),
    fun ha => (hhi fun h => ha (hx h)).keep g fun h => ha (hl h)⟩

theorem HoldsWord.keep {s t u : State} {a : Addr} {v : Word} {l : List Nat} (h : HoldsWord s t a v)
    (g : SameMemoryBut t u l) (ha : ∀ k ∈ s.wordCells a, k ∉ l) : HoldsWord s u a v := by
  obtain ⟨hlo, hhi⟩ := h
  exact ⟨hlo.keep g (ha _ List.mem_cons_self), hhi.keep g (ha _ (List.mem_cons_of_mem _ List.mem_cons_self))⟩

/-! ### What counts of the later state is its memory -/

section
variable {s t u : State} (hm : u.mem = t.mem)
include hm

theorem SameMemoryBut.congr {l : List Nat} (h : SameMemoryBut s t l) : SameMemoryBut s u l := fun k hk => by
  rw [hm, h k hk]

theorem HoldsByte.congr {k : Nat} {v : Byte} (h : HoldsByte s t k v) : HoldsByte s u k v := fun hrom => by
  rw [hm, h hrom]

theorem HoldsWord.congr {a : Addr} {v : Word} (h : HoldsWord s t a v) : HoldsWord s u a v := by
  obtain ⟨hlo, hhi⟩ := h
  exact ⟨hlo.congr hm, hhi.congr hm⟩

end

/-- Nothing but memory differs. -/
def OnlyMemory (s t : State) : Prop := ∃ m, t = { s with mem := m }

namespace OnlyMemory

theorem refl (s : State) : OnlyMemory s s := ⟨s.mem, rfl⟩

variable {s t : State}

theorem writeByte (h : OnlyMemory s t) (a : Addr) (v : Byte) : OnlyMemory s (t.writeByte a v) := by
  obtain ⟨m, rfl⟩ := h
  exact ⟨_, rfl⟩

theorem writeWord (h : OnlyMemory s t) (a : Addr) (v : Word) : OnlyMemory s (t.writeWord a v) :=
  (h.writeByte a v.lo).writeByte (a + 1) v.hi

theorem sameSystem (h : OnlyMemory s t) : SameSystem s t := by
  obtain ⟨m, rfl⟩ := h
  exact SameSystem.refl s

end OnlyMemory

/-! ### States with the same mode and the same environment -/

/-- An address names the same cell in both states, and the same cells ignore writes. -/
structure SameBus (s t : State) : Prop where
  pe : t.msw.pe = s.msw.pe
  env : t.env = s.env

namespace SameBus

theorem refl (s : State) : SameBus s s := ⟨rfl, rfl⟩

theorem trans {s t u : State} (h : SameBus s t) (k : SameBus t u) : SameBus s u :=
  ⟨k.pe.trans h.pe, k.env.trans h.env⟩

variable {s t : State} (h : SameBus s t)
include h

theorem cell (a : Addr) : t.cell a = s.cell a := by simp only [State.cell, State.busAddr, h.pe, h.env]

theorem wordCells (a : Addr) : t.wordCells a = s.wordCells a := by simp only [State.wordCells, h.cell]

theorem isRom (k : Nat) : t.isRom k = s.isRom k := by simp only [State.isRom, h.env]

theorem holdsByte {u : State} {k : Nat} {v : Byte} : HoldsByte t u k v ↔ HoldsByte s u k v := by
  simp only [HoldsByte, h.isRom]

theorem holdsWord {u : State} {a : Addr} {v : Word} : HoldsWord t u a v ↔ HoldsWord s u a v := by
  simp only [HoldsWord, h.holdsByte, h.cell]

theorem readByte {a : Addr} (hm : readCell t.mem (s.cell a) = readCell s.mem (s.cell a)) :
    t.readByte a = s.readByte a := by
  rw [State.readByte, State.readByte, ← State.cell, ← State.cell, h.cell, hm]

theorem readWord {a : Addr} {l : List Nat} (hm : SameMemoryBut s t l) (ha : ∀ c ∈ s.wordCells a, c ∉ l) :
    t.readWord a = s.readWord a := by
  rw [State.readWord, State.readWord, h.readByte (hm _ (ha _ List.mem_cons_self)),
    h.readByte (hm _ (ha _ (List.mem_cons_of_mem _ List.mem_cons_self)))]

theorem writeByte (a : Addr) (v : Byte) : SameBus s (t.writeByte a v) := h.trans ⟨rfl, rfl⟩

theorem writeWord (a : Addr) (v : Word) : SameBus s (t.writeWord a v) := h.trans ⟨rfl, rfl⟩

theorem byte_frame (a : Addr) (v : Byte) : SameMemoryBut t (t.writeByte a v) [s.cell a] := by
  rw [← h.cell]
  exact t.writeByte_frame a v

theorem word_frame (a : Addr) (v : Word) : SameMemoryBut t (t.writeWord a v) (s.wordCells a) := by
  rw [← h.wordCells]
  exact t.writeWord_frame a v

theorem byte_holds (ht : Canonical t) (a : Addr) (v : Byte) : HoldsByte s (t.writeByte a v) (s.cell a) v := by
  rw [← h.holdsByte, ← h.cell]
  exact State.writeByte_holds ht a v

theorem word_holds (ht : Canonical t) (a : Addr) (v : Word) : HoldsWord s (t.writeWord a v) a v :=
  h.holdsWord.1 (State.writeWord_holds ht a v)

end SameBus

end Sys2Proof.Machine
end

section
/-!
System registers and selector tests (48 R722 to R740). Each form checks its mode, its level and its operand, and then
loads or stores one thing.
-/

namespace Sys2Proof.Machine

/-! ### The table registers and MSW (48 R722 to R728) -/

/-- Two words and two bytes stored one after the other in places apart from each other. -/
theorem State.writes_apart {s : State} (h : Canonical s) {a b c d : Addr} (v w : Word) (x y : Byte)
    (ha : ∀ k ∈ s.wordCells a, k ∉ s.wordCells b ++ [s.cell c, s.cell d])
    (hb : ∀ k ∈ s.wordCells b, k ∉ [s.cell c, s.cell d]) (hc : s.cell c ∉ [s.cell d]) :
    let t := (((s.writeWord a v).writeWord b w).writeByte c x).writeByte d y
    HoldsWord s t a v ∧ HoldsWord s t b w ∧ HoldsByte s t (s.cell c) x ∧
      SameMemoryBut s t (s.wordCells a ++ s.wordCells b ++ [s.cell c, s.cell d]) := by
  intro t
  have h1 : Canonical (s.writeWord a v) := State.writeWord_wf h a v
  have h2 : Canonical ((s.writeWord a v).writeWord b w) := State.writeWord_wf h1 b w
  have b1 : SameBus s (s.writeWord a v) := (SameBus.refl s).writeWord a v
  have b2 := b1.writeWord b w
  have fb := b1.word_frame b w
  have fcd := (b2.byte_frame c x).trans ((b2.writeByte c x).byte_frame d y)
  refine ⟨(State.writeWord_holds h a v).keep (fb.trans fcd) ha, (b1.word_holds h1 b w).keep fcd hb,
    (b2.byte_holds h2 c x).keep ((b2.writeByte c x).byte_frame d y) hc, ?_⟩
  exact ((s.writeWord_frame a v).trans (fb.trans fcd)).mono (by simp)

theorem State.writeByte_linear (s : State) (a : Addr) (v : Byte) (r : SReg) (o : Word) :
    (s.writeByte a v).linear r o = s.linear r o := by
  cases r <;> rfl

theorem State.writeWord_linear (s : State) (a : Addr) (v : Word) (r : SReg) (o : Word) :
    (s.writeWord a v).linear r o = s.linear r o := by
  cases r <;> rfl

/-- Words of one segment that are two bytes or more apart, wherever its 64K ends. -/
theorem State.words_apart (s : State) (r : SReg) (o : Word) {j k : Word} (hj : 2 ≤ (j - k).toNat)
    (hk : 2 ≤ (k - j).toNat) : ∀ c ∈ s.wordCells (s.linear r (o + j)), c ∉ s.wordCells (s.linear r (o + k)) :=
  s.words_disjoint r (by rwa [add_sub_add_left_eq_sub]) (by rwa [add_sub_add_left_eq_sub])

theorem State.storeTable_onlyMemory (s : State) (m : MemRef) (g : TableReg) : OnlyMemory s (s.storeTable (.mem m) g) :=
  ((((OnlyMemory.refl s).writeWord ..).writeWord ..).writeByte ..).writeByte ..

/-- The limit, the base and the last byte of a table register, stored at an operand (48 R722, R723). -/
theorem State.storeTable_effect {s : State} (h : Canonical s) (m : MemRef) (g : TableReg) :
    let t := s.storeTable (.mem m) g
    let a := fun k : Word => s.linear (s.memSeg m) (s.ea m + k)
    HoldsWord s t (a 0) g.limit ∧ HoldsWord s t (a 2) (g.base.extractLsb' 0 16) ∧
      HoldsByte s t (s.cell (a 4)) (g.base.extractLsb' 16 8) ∧
      SameMemoryBut s t (s.wordCells (a 0) ++ s.wordCells (a 2) ++ [s.cell (a 4), s.cell (a 5)]) := by
  intro t a
  have ht : t = (((s.writeWord (a 0) g.limit).writeWord (a 2) (g.base.extractLsb' 0 16)).writeByte (a 4)
      (g.base.extractLsb' 16 8)).writeByte (a 5) (Config.freeByte s.draw) := by
    have h0 : a 0 = s.linear (s.memSeg m) (s.ea m) := congrArg (s.linear _) (BitVec.add_zero _)
    rw [h0]
    simp only [t, a, State.storeTable, State.poke16, State.poke8, State.writeWord_linear, State.writeByte_linear]
  have apart {j k : Word} (hj : 2 ≤ (j - k).toNat) (hk : 2 ≤ (k - j).toNat) :
      ∀ c ∈ s.wordCells (a j), c ∉ s.wordCells (a k) := s.words_apart _ _ hj hk
  have first (k : Word) : s.cell (a k) ∈ s.wordCells (a k) := List.mem_cons_self
  have hlast : s.cell (a 4) ∉ [s.cell (a 5)] := fun hc => by
    have heq : s.ea m + 4 = s.ea m + 5 := s.linear_cell_inj _ (List.mem_singleton.1 hc)
    exact absurd (BitVec.add_right_inj _ |>.1 heq) (by decide)
  rw [ht]
  refine State.writes_apart h _ _ _ _ (fun c hc hin => ?_) (fun c hc hin => ?_) hlast
  · rcases List.mem_append.1 hin with hin | hin
    · exact apart (by decide) (by decide) c hc hin
    · rcases List.mem_pair.1 hin with rfl | rfl
      · exact apart (by decide) (by decide) _ hc (first 4)
      · exact apart (by decide) (by decide) _ hc (first 5)
  · rcases List.mem_pair.1 hin with rfl | rfl
    · exact apart (by decide) (by decide) _ hc (first 4)
    · exact apart (by decide) (by decide) _ hc (first 5)

/-- SGDT and SIDT store the table register they name. -/
theorem StoresTable.of_attempt {i : Instr} {s : State} (h : Canonical s) {m : MemRef}
    (hm : s.checkMem m 6 true = .ok ())
    {g : TableReg} (he : exec i s = attempt s (s.checkMem m 6 true) (s.storeTable (.mem m) g).advance.drawn) :
    StoresTable i s m g := by
  obtain ⟨hlimit, hbase, hhigh, hmem⟩ := State.storeTable_effect h m g
  have hlow : g.base.extractLsb' 0 16 = g.base.setWidth 16 := (BitVec.setWidth_eq_extractLsb' (by decide)).symm
  have hshift : g.base.extractLsb' 16 8 = (g.base >>> 16).setWidth 8 := by
    apply BitVec.eq_of_toNat_eq
    simp
  rw [hlow] at hbase
  rw [hshift] at hhigh
  obtain ⟨b, hb⟩ := s.storeTable_onlyMemory m g
  rw [hb] at he hlimit hbase hhigh hmem
  exact ⟨_, he.trans (attempt_of_ok hm), hlimit, hbase, hhigh, hmem, fun _ _ => rfl, rfl, rfl, SameSystem.refl s⟩

/-- The base of a table is three bytes, the highest last (48 R724). -/
theorem State.tableOperand_held (s : State) (m : MemRef) : HeldTable s m (s.tableOperand (.mem m)) := by
  refine ⟨rfl, ?_⟩
  have hlt := (s.memWord (.mem m) 2).isLt
  rw [State.tableOperand, BitVec.toNat_append, ← Nat.shiftLeft_add_eq_or_of_lt hlt, Nat.shiftLeft_eq]
  omega

theorem Msw.toWord_bits (m : Msw) : m.toWord.getLsbD 0 = m.pe ∧ m.toWord.getLsbD 1 = m.mp ∧
    m.toWord.getLsbD 2 = m.em ∧ m.toWord.getLsbD 3 = m.ts := by
  obtain ⟨pe, mp, em, ts⟩ := m
  revert pe mp em ts
  decide

/-- Settles O36: a passed check leaves one store or one load of a register, which says all of each form. -/
theorem systemRegisters : Obligations.SystemRegisters := by
  intro s
  have level (hu : s.unprivileged = false) : s.checkPrivileged = .ok () := State.checkPrivileged_ok hu
  refine ⟨fun m h hm => ⟨.of_attempt h hm rfl, .of_attempt h hm rfl⟩, fun m hu hm => ?_,
    fun e h he => ⟨s.msw.toWord, .of_attempt h he rfl, s.msw.toWord_bits⟩, fun e hu he => ?_, fun hu => ?_⟩
  · have hc : (do checkIsMem (.mem m); s.checkPrivileged; s.checkM (.mem m) 6 false : Except Exn Unit) = .ok () :=
      bind_ok.2 ⟨rfl, bind_ok.2 ⟨level hu, hm⟩⟩
    exact ⟨⟨_, attempt_of_ok hc, s.tableOperand_held m, ⟨fun _ _ => rfl, fun _ _ => rfl⟩, rfl, rfl, SameSystem.refl _⟩,
      ⟨_, attempt_of_ok hc, s.tableOperand_held m, ⟨fun _ _ => rfl, fun _ _ => rfl⟩, rfl, rfl, SameSystem.refl _⟩⟩
  · exact ⟨_, attempt_of_ok (bind_ok.2 ⟨level hu, he⟩), rfl, rfl, rfl, rfl, ⟨fun _ _ => rfl, fun _ _ => rfl⟩, rfl, rfl,
      SameSystem.refl _⟩
  · exact ⟨_, attempt_of_ok (level hu), rfl, ⟨fun _ _ => rfl, fun _ _ => rfl⟩, rfl, rfl, SameSystem.refl _⟩

/-! ### LDTR and TR (48 R730 to R733) -/

/-- A selector that passed its tests loads LDTR from its descriptor; a null one leaves base and limit alone
(21 R194). -/
theorem State.applyLdt_ldtr (s : State) (sel : Word) :
    let l := (s.applyLdt sel).ldtr
    l.sel = sel ∧ (l.valid = true ↔ selNull sel = false) ∧
      (selNull sel = false → l.base = (s.desc sel).base ∧ l.limit = (s.desc sel).limit) := by
  intro l
  cases hn : selNull sel with
  | true =>
    have hl : l = { s.ldtr with sel := sel, valid := false } := if_pos hn
    rw [hl]
    simp
  | false =>
    have hl : l = (s.desc sel).toSys sel := if_neg (Bool.eq_false_iff.1 hn)
    rw [hl]
    simp [Desc.toSys]

/-- Settles O37: what Protected Mode recognises, at level 0 with an operand that can be read, is left with the test of
its selector. -/
theorem ldtrAndTr : Obligations.LdtrAndTr := by
  intro s e h hp
  have hpm : s.checkPm = .ok () := (require_ok ..).2 hp
  refine ⟨fun hw => ⟨.of_attempt h (bind_ok.2 ⟨hpm, hw⟩) rfl, .of_attempt h (bind_ok.2 ⟨hpm, hw⟩) rfl⟩,
    fun hcpl he => ?_⟩
  intro sel
  have hlevel : s.checkPrivileged = .ok () :=
    State.checkPrivileged_ok (by rw [State.unprivileged, hcpl, bne_self_eq_false, Bool.and_false])
  have passes {c : Except Exn Unit} (hc : c = .ok ()) :
      (do s.checkPm; s.checkPrivileged; s.checkEw e false; c : Except Exn Unit) = .ok () :=
    bind_ok.2 ⟨hpm, bind_ok.2 ⟨hlevel, bind_ok.2 ⟨he, hc⟩⟩⟩
  refine ⟨fun hc => ?_, fun hc => ?_⟩
  · obtain ⟨hsel, hvalid, hdesc⟩ := s.applyLdt_ldtr sel
    exact ⟨_, attempt_of_ok (passes hc), hsel, hvalid, hdesc, ⟨fun _ _ => rfl, fun _ _ => rfl⟩, rfl, rfl,
      SameSystem.refl _⟩
  · exact ⟨_, attempt_of_ok (passes hc), rfl, State.writeByte_holds h _ _, s.writeByte_frame _ _, fun _ _ => rfl, rfl,
      rfl, SameSystem.refl _⟩

/-! ### The selector tests (48 R734 to R737) -/

section
variable (s : State) (sel : Word)

theorem State.selDefined_iff : s.selDefined sel = true ↔ SelDefined s sel := by
  simp [State.selDefined, SelDefined]

theorem State.selVisible_iff : s.selVisible sel = true ↔ SelVisible s sel := by
  simp [State.selVisible, SelVisible]

/-- Each test asks that the descriptor be there, be of some kind, and be visible. -/
theorem State.selTest_iff {kind : Bool} {K : Prop} (hk : kind = true ↔ K) :
    (s.selDefined sel && kind && s.selVisible sel) = true ↔ SelDefined s sel ∧ K ∧ SelVisible s sel := by
  rw [Bool.and_eq_true, Bool.and_eq_true, s.selDefined_iff, s.selVisible_iff, hk, and_assoc]

end

/-- The kinds LAR knows: a segment, or one of the types 1 to 7 (48 R736; 93 U16). -/
theorem arLegal_iff (ar : Byte) :
    arLegal ar = true ↔ ar.getLsbD 4 = true ∨ 1 ≤ (arType ar).toNat ∧ (arType ar).toNat ≤ 7 := by
  revert ar
  decide

/-- The kinds LSL knows: a segment, a TSS or an LDT (48 R737). -/
theorem arHasLimit_iff (ar : Byte) :
    arHasLimit ar = true ↔ ar.getLsbD 4 = true ∨ arType ar = 1 ∨ arType ar = 2 ∨ arType ar = 3 := by
  simp only [arHasLimit, Bool.or_eq_true, beq_iff_eq, or_assoc]

/-- The end of a selector test, with the general registers outside `l` left alone: ZF is what it found, and a segment
descriptor that passed is marked (92 D13). -/
theorem SelTested.of_selTest {s u : State} (h : Canonical s) {ok : Bool} {P : Prop} (hok : ok = true ↔ P) {sel : Word}
    {l : List Reg16} (hf : u.flags = { s.flags with zf := ok }) (hmem : u.mem = (s.selTest ok sel).mem)
    (hregs : SameRegsBut s u l) (hip : u.ip = s.nextIp) (hsys : SameSystem s u) : SelTested s u P sel l := by
  by_cases hseg : ok = true ∧ (s.desc sel).access.getLsbD 4 = true
  · have hm : u.mem = (s.setAccessed sel (s.desc sel)).mem := by
      rw [hmem, State.selTest, if_pos (Bool.and_eq_true_iff.2 hseg)]; rfl
    refine ⟨⟨ok, hf, hok⟩, fun _ => ⟨fun hrom => ?_, fun k hk => ?_⟩, fun hn => ?_, hregs, hip, hsys⟩
    · rw [hm]; exact State.writeByte_holds h _ _ hrom
    · rw [hm]; exact s.writeByte_frame _ _ k hk
    · exact absurd (by rw [← hok]; exact hseg) hn
  · have hm : u.mem = s.mem := by
      rw [hmem, State.selTest, if_neg (mt Bool.and_eq_true_iff.1 hseg)]; rfl
    refine ⟨⟨ok, hf, hok⟩, fun hn => ?_, fun _ => .of_mem_eq hm _, hregs, hip, hsys⟩
    exact absurd (by rw [← hok] at hn; exact hn) hseg

/-- A selector test touches FLAGS and memory only. -/
theorem State.selTest_eq (s : State) (ok : Bool) (sel : Word) :
    s.selTest ok sel = { s with flags := { s.flags with zf := ok }, mem := (s.selTest ok sel).mem } := by
  unfold State.selTest
  split <;> rfl

/-- VERR and VERW load nothing. -/
theorem SelTested.of_test {s : State} (h : Canonical s) {ok : Bool} {P : Prop} (hok : ok = true ↔ P) (sel : Word) :
    SelTested s (s.selTest ok sel).advance P sel [] := by
  have e := s.selTest_eq ok sel
  refine .of_selTest h hok (by rw [e]; rfl) rfl (fun _ _ => by rw [e]; rfl) (by rw [e]; rfl) ?_
  rw [e]
  exact SameSystem.refl s

/-- LAR and LSL load their register exactly when the test passes. -/
theorem SelTested.of_load {s : State} (h : Canonical s) {ok : Bool} {P : Prop} (hok : ok = true ↔ P) (sel : Word)
    (r : Reg16) (v : Word) :
    let t := (s.selLoad ok sel r v).advance
    SelTested s t P sel [r] ∧ (P → t.reg r = v) ∧ (¬P → t.reg r = s.reg r) := by
  intro t
  have e := s.selTest_eq ok sel
  cases hv : ok with
  | true =>
    have ht : t = ((s.selTest true sel).setReg r v).advance := by simp [t, State.selLoad, hv]
    rw [hv] at e hok
    have hr : t.reg r = v := by rw [ht]; exact State.setReg_reg_same ..
    refine ⟨.of_selTest h hok (by rw [ht, e]; rfl) (by rw [ht]; rfl) (fun q hq => ?_) (by rw [ht, e]; rfl) ?_,
      fun _ => hr, fun hn => absurd (hok.1 rfl) hn⟩
    · rw [ht, e]; exact State.setReg_reg_ne _ (by simpa using hq) _
    · rw [ht, e]; exact SameSystem.refl s
  | false =>
    have ht : t = (s.selTest false sel).advance := by simp [t, State.selLoad, hv]
    rw [hv] at e hok
    refine ⟨.of_selTest h hok (by rw [ht, e]; rfl) (by rw [ht]; rfl) (fun q _ => by rw [ht, e]; rfl)
      (by rw [ht, e]; rfl) (by rw [ht, e]; exact SameSystem.refl s), fun hP => absurd (hok.2 hP) Bool.false_ne_true,
      fun _ => by rw [ht, e]; rfl⟩

/-! ### The RPL of a selector (48 R740) -/

theorem selWithRpl_getLsbD (sel : Word) (p : BitVec 2) {i : Nat} (hi : i < 16) :
    (selWithRpl sel p).getLsbD i = if i < 2 then p.getLsbD i else sel.getLsbD i := by
  have hmask : (0xFFFC : BitVec 16).getLsbD i = decide (2 ≤ i) := by interval_cases i <;> decide
  rw [selWithRpl, BitVec.getLsbD_or, BitVec.getLsbD_and, BitVec.getLsbD_setWidth, hmask]
  by_cases h2 : i < 2
  · simp [h2, hi, Nat.not_le.2 h2]
  · simp [h2, hi, Nat.not_lt.1 h2]

/-- Another RPL is what it is replaced by. -/
theorem selRpl_selWithRpl (sel : Word) (p : BitVec 2) : selRpl (selWithRpl sel p) = p := by
  apply BitVec.eq_of_getLsbD_eq
  intro i hi
  rw [selRpl, BitVec.getLsbD_extractLsb', Nat.zero_add, selWithRpl_getLsbD _ _ (by omega), if_pos hi]
  simp [hi]

/-- INDEX and TI are kept. -/
theorem selWithRpl_high (sel : Word) (p : BitVec 2) : (selWithRpl sel p).extractLsb' 2 14 = sel.extractLsb' 2 14 := by
  apply BitVec.eq_of_getLsbD_eq
  intro i hi
  rw [BitVec.getLsbD_extractLsb', BitVec.getLsbD_extractLsb', selWithRpl_getLsbD _ _ (by omega), if_neg (by omega)]

/-- A selector with its own RPL is itself. -/
theorem selWithRpl_selRpl (sel : Word) : selWithRpl sel (selRpl sel) = sel := by
  apply BitVec.eq_of_getLsbD_eq
  intro i hi
  rw [selWithRpl_getLsbD _ _ hi, selRpl, BitVec.getLsbD_extractLsb', Nat.zero_add]
  split
  · simp [*]
  · rfl

/-- Settles O38: each test is a test of the model, named part by part; ARPL compares the two RPLs. -/
theorem selectorQueries : Obligations.SelectorQueries := by
  intro s e h hp
  have hpm : s.checkPm = .ok () := (require_ok ..).2 hp
  refine ⟨fun he => ?_, fun r he => ⟨fun hlt => ?_, fun hge => ?_⟩⟩
  · intro sel d lar lsl
    have hc : (do s.checkPm; s.checkEw e false : Except Exn Unit) = .ok () := bind_ok.2 ⟨hpm, he⟩
    have hlar : s.larOk sel = true ↔ lar := by
      rw [State.larOk, s.selTest_iff sel (arLegal_iff _), and_congr_right_iff]
      exact fun _ => And.comm
    have hlsl : s.lslOk sel = true ↔ lsl := by
      rw [State.lslOk, s.selTest_iff sel (arHasLimit_iff _), and_congr_right_iff]
      exact fun _ => And.comm
    refine ⟨⟨_, attempt_of_ok hc, .of_test h (s.selTest_iff sel Iff.rfl) sel⟩,
      ⟨_, attempt_of_ok hc, .of_test h (s.selTest_iff sel Iff.rfl) sel⟩, fun r => ?_, fun r => ?_⟩
    · obtain ⟨htest, hload, hkeep⟩ := SelTested.of_load h hlar sel r (wordOf d.access 0)
      refine ⟨_, attempt_of_ok hc, htest, fun hpass => ?_, hkeep⟩
      rw [hload hpass]
      exact ⟨hi_wordOf .., lo_wordOf ..⟩
    · exact ⟨_, attempt_of_ok hc, SelTested.of_load h hlsl sel r d.limit⟩
  · refine ⟨selWithRpl (s.getEw e) (selRpl (s.reg r)), ?_, selRpl_selWithRpl .., selWithRpl_high ..⟩
    have hexec : exec (.arplEwRw e r) s = .next (s.arpl e (s.reg r)).advance := attempt_of_ok (bind_ok.2 ⟨hpm, he⟩)
    rw [State.arpl, if_pos hlt] at hexec
    exact EndsEw.of_next h hexec rfl rfl (by simp [State.setZf]) (s.putEw_nextIp e _) (s.putEw_sameSystem e _)
  · have hexec : exec (.arplEwRw e r) s = .next (s.arpl e (s.reg r)).advance := attempt_of_ok (bind_ok.2 ⟨hpm, he⟩)
    rw [State.arpl, if_neg hge] at hexec
    exact SetsFlags.of_next hexec

end Sys2Proof.Machine
end

section
/-!
RESET (70 R870, R871), and the events of Real Address Mode that are not instructions: exceptions, with what a frame that
does not fit leaves (60 R780 to R785, R806, R809), and the events of a boundary (60 R790 to R795).
-/

namespace Sys2Proof.Machine

/-- Settles O54: RESET brings the machine to the reset state but for its run state, its memory and its surroundings. -/
theorem resetState : Obligations.ResetState := by
  have hflags : State.reset.flags.toWord = 0x0002 := by decide
  have hfetch : State.reset.linear .cs State.reset.ip = 0xFFFFF0 := by decide
  have hmsw : State.reset.msw.toWord = 0xFFF0 := by decide
  refine ⟨?_, fun s hr => ⟨s.inReset, step_of_reset hr, ?_⟩⟩
  · intro s
    exact ⟨hflags, hmsw, rfl, rfl, rfl, rfl, rfl, rfl, rfl, rfl, rfl, rfl, rfl, rfl, rfl, rfl, rfl, rfl, rfl, rfl,
      rfl, rfl, rfl, hfetch, rfl, rfl⟩
  · exact ⟨rfl, rfl, rfl, rfl, rfl, rfl, rfl, rfl, rfl, rfl, rfl, rfl, fun _ _ => rfl, rfl⟩

/-! ### A frame that does not fit -/

/-- Room for one word more is room for the first word and, after it, for the rest. -/
theorem State.stackRoom_succ_iff (s : State) (w : Word) (k : Nat) : s.stackRoom (k + 1) = true ↔
    s.segUsable .ss = true ∧ s.inLimit s.ss (s.spDown 2) 2 = true ∧ (s.push w).stackRoom k = true := by
  refine ⟨s.stackRoom_push w k, fun ⟨husable, hfirst, hrest⟩ => (s.stackRoom_iff _).2 ⟨husable, fun i hi => ?_⟩⟩
  cases i with
  | zero => exact hfirst
  | succ i =>
    have hsp : (s.push w).reg .sp = s.reg .sp - 2 := State.setReg_reg_same _ _ _
    have hword := ((s.push w).stackRoom_iff k).1 hrest |>.2 i (Nat.lt_of_succ_lt_succ hi)
    rw [State.spDown, hsp, sub_two_sub] at hword
    exact hword

/-- In Real Address Mode a push is stopped by the limit of the stack segment only. -/
theorem State.checkPush_real {s : State} (hp : s.msw.pe = false) :
    s.check .ss (s.spDown 2) 2 true = .ok () ↔ s.stackRoom 1 = true := by
  rw [s.check_ok, s.stackRoom_iff]
  refine ⟨fun ⟨husable, _, hlimit⟩ => ⟨husable, fun i hi => ?_⟩,
    fun ⟨husable, hwords⟩ => ⟨husable, State.segRights_real hp .., hwords 0 Nat.one_pos⟩⟩
  obtain rfl : i = 0 := Nat.lt_one_iff.1 hi
  exact hlimit

/-- Pushes of Real Address Mode with room for `j` of them end at the next one, with those `j` done (60 R806). -/
theorem pushAllReal_stops (l : List Word) : ∀ (s : State) (j : Nat), s.msw.pe = false → j < l.length →
    s.stackRoom j = true → s.stackRoom (j + 1) = false → pushAllReal l s = .error (s.pushes (l.take j)) := by
  induction l with
  | nil => intro s j _ hj; exact absurd hj (Nat.not_lt_zero j)
  | cons w l ih =>
    intro s j hp hj hroom hfull
    cases j with
    | zero =>
      have hc : s.check .ss (s.spDown 2) 2 true ≠ .ok () :=
        mt (State.checkPush_real hp).1 (Bool.eq_false_iff.1 hfull)
      rw [pushAllReal]
      split
      · exact absurd ‹_› hc
      · rfl
    | succ j =>
      obtain ⟨husable, hfirst, hrest⟩ := (s.stackRoom_succ_iff w j).1 hroom
      have hc : s.check .ss (s.spDown 2) 2 true = .ok () :=
        (s.check_ok ..).2 ⟨husable, State.segRights_real hp .., hfirst⟩
      have hnext : (s.push w).stackRoom (j + 1) = false := by
        rw [Bool.eq_false_iff] at hfull ⊢
        exact fun h => hfull ((s.stackRoom_succ_iff w (j + 1)).2 ⟨husable, hfirst, h⟩)
      rw [pushAllReal, hc]
      exact ih (s.push w) j hp (Nat.lt_of_succ_lt_succ hj) hrest hnext

theorem SameSystem.enterShutdown {s t : State} (h : SameSystem s t) :
    SameSystem { s with run := .shutdown } t.enterShutdown := by
  obtain ⟨hmsw, hsegs, htables, hpending, hmasked, hoverrun, hinhibit, htf, -, hrest⟩ := h
  exact ⟨hmsw, hsegs, htables, hpending, hmasked, hoverrun, hinhibit, htf, rfl, hrest⟩

/-! ### Exceptions -/

theorem State.inVectorTable_iff (s : State) (n : Byte) :
    s.inVectorTable n = true ↔ 4 * n.toNat + 3 ≤ s.idtr.limit.toNat :=
  decide_eq_true_iff

section
variable {s : State} (hp : InReal s) {n : Byte} (code : Option Word)
include hp

theorem State.raise_real : s.raise (.trap n code) = s.deliverReal n s.ip := by
  change s.deliver _ = _
  rw [State.deliver, hp]
  rfl

theorem State.raise_inTable (hvec : 4 * n.toNat + 3 ≤ s.idtr.limit.toNat) :
    s.raise (.trap n code) = s.enterReal n s.ip := by
  rw [State.raise_real hp, State.deliverReal, if_pos ((s.inVectorTable_iff _).2 hvec)]

/-- A handler whose frame has room for `j` words only is not entered. -/
theorem State.enterReal_stops {j : Nat} (hj : j < 3) (hroom : s.stackRoom j = true)
    (hfull : s.stackRoom (j + 1) = false) (retIp : Word) :
    s.enterReal n retIp = (s.pushes ([s.flags.toWord, s.cs.sel, retIp].take j)).enterShutdown := by
  rw [State.enterReal, pushAllReal_stops [s.flags.toWord, s.cs.sel, retIp] s j hp hj hroom hfull]

end

/-- Settles O40: the vector is inside the table, or is replaced by 8, or neither; then the frame has room for its three
words, or for fewer. -/
theorem exceptionEntryReal : Obligations.ExceptionEntryReal := by
  intro s n code h hp
  refine ⟨fun hvec hroom => ?_, fun hvec h8 h13 hdf hroom => ?_, fun hvec hlost => ?_, fun hvec hfull => ?_,
    fun j hj hvec hroom hfull => ?_⟩
  · rw [State.raise_inTable hp code hvec]
    exact State.enterReal_took hp h hroom n s.ip
  · rw [State.raise_real hp, State.deliverReal, if_neg (mt (s.inVectorTable_iff n).1 (Nat.not_le.2 hvec)),
      if_neg (not_or.2 ⟨h8, h13⟩), if_pos ((s.inVectorTable_iff 8).2 hdf)]
    exact State.enterReal_took hp h hroom 8 s.ip
  · rw [State.raise_real hp, State.deliverReal, if_neg (mt (s.inVectorTable_iff n).1 (Nat.not_le.2 hvec))]
    by_cases hn : n = 8 ∨ n = 13
    · rw [if_pos hn]
    · have hdf : s.idtr.limit.toNat < 35 := by tauto
      rw [if_neg hn, if_neg (mt (s.inVectorTable_iff 8).1 (Nat.not_le.2 hdf))]
  · have hempty : s.stackRoom 0 = true := by simp [State.stackRoom, State.room, allBelow, State.segUsable_real hp]
    rw [State.raise_inTable hp code hvec]
    exact State.enterReal_stops hp (by decide) hempty hfull s.ip
  · obtain ⟨hflags, -, hsys⟩ := s.pushes_rest ([s.flags.toWord, s.cs.sel, s.ip].take j)
    obtain ⟨hframe, -⟩ := State.pushes_frame h ([s.flags.toWord, s.cs.sel, s.ip].take j) (by simp)
    rw [State.raise_inTable hp code hvec, State.enterReal_stops hp hj hroom hfull]
    exact ⟨hframe, rfl, by rw [State.pushes_eq]; rfl, hflags, hsys.enterShutdown⟩

/-! ### Events of the boundary -/

/-- An event saves the current IP. -/
theorem State.extInt_took {s : State} (hp : InReal s) (h : Canonical s) (hroom : s.stackRoom 3 = true) {n : Byte}
    (hvec : 4 * n.toNat + 3 ≤ s.idtr.limit.toNat) : TookReal s (s.extInt n) n s.ip := by
  rw [State.extInt, State.deliver_real hp hvec]
  exact State.enterReal_took hp h hroom n s.ip

section
variable {s : State}

theorem State.boundaryEvent_nmi (hnmi : s.nmiReady = true) : s.boundaryEvent = some (s.takeNmi.extInt 2) := by
  rw [State.boundaryEvent, if_pos hnmi]

/-- Where neither NMI nor an overrun is accepted, INTR comes next (60 R792, R795). -/
theorem State.boundaryEvent_intr (hnmi : s.nmiReady = false) (hoverrun : s.overrunReady = false) {n : Byte}
    {rest : List Byte} (hintr : s.env.intr = n :: rest) :
    s.boundaryEvent = if s.intInhibit = .none && s.flags.ief then some ((s.ackIntr n rest).extInt n) else none := by
  rw [State.boundaryEvent, hnmi, hoverrun, hintr]
  rfl

end

/-- Settles O48: with the table at its reset limit every vector is inside it, so what is accepted is taken. -/
theorem boundaryEventsReal : Obligations.BoundaryEventsReal := by
  intro s h hp hroom hlimit
  have hvec (n : Byte) : 4 * n.toNat + 3 ≤ s.idtr.limit.toNat := by have := n.isLt; omega
  refine ⟨fun hinhibit hpending hmasked => ?_, fun hnmi hoverrun n rest hintr => ?_⟩
  · have hready : s.nmiReady = true := by simp [State.nmiReady, hinhibit, hpending, hmasked]
    exact ⟨_, State.boundaryEvent_nmi hready, State.extInt_took (s := s.takeNmi) hp h hroom (hvec 2)⟩
  · have hn : s.nmiReady = false := by
      obtain hn | hn := hnmi <;> simp [State.nmiReady, hn]
    have ho : s.overrunReady = false := by
      obtain ho | ho := hoverrun <;> simp [State.overrunReady, ho]
    rw [State.boundaryEvent_intr hn ho hintr]
    refine ⟨fun hief hinhibit => ?_, fun hoff => ?_⟩
    · rw [hief, hinhibit]
      exact ⟨_, rfl, State.extInt_took (s := s.ackIntr n rest) hp h hroom (hvec n)⟩
    · refine if_neg fun hon => ?_
      obtain ⟨hinhibit, hief⟩ := Bool.and_eq_true_iff.1 hon
      obtain hoff | hoff := hoff
      · exact Bool.false_ne_true (hoff.symm.trans hief)
      · exact hoff (of_decide_eq_true hinhibit)

end Sys2Proof.Machine
end

section
/-!
That every instruction answers (60 R770, R771): every end of a meaning is a next state, so only the decoder can refuse,
and it does so for D4 and D5 with a base other than ten (93 U3).
-/

namespace Sys2Proof

/-! ### What the decoder refuses -/

/-- The parser fails where its bytes run out or, after D4 and D5, at a base other than 0AH (93 U3). -/
def FailsOnBase (p : Parser) : Prop :=
  ∀ bs e, p bs = .error e → e = .truncated ∨ ∃ b : Byte, b ≠ 0x0A ∧ (e = .aamBase b ∨ e = .aadBase b)

namespace FailsOnBase

@[simp] theorem pNone (i : Instr) : FailsOnBase (pNone i) := fun _ _ h => by cases h

@[simp] theorem pImm8 (f : Byte → Instr) : FailsOnBase (pImm8 f)
  | [], _, h => by cases h; exact .inl rfl
  | _ :: _, _, h => by cases h

@[simp] theorem pSkip8 (i : Instr) : FailsOnBase (pSkip8 i)
  | [], _, h => by cases h; exact .inl rfl
  | _ :: _, _, h => by cases h

@[simp] theorem pImm16 (f : Word → Instr) : FailsOnBase (pImm16 f)
  | [], _, h | [_], _, h => by cases h; exact .inl rfl
  | _ :: _ :: _, _, h => by cases h

@[simp] theorem pImm16Imm8 (f : Word → Byte → Instr) : FailsOnBase (pImm16Imm8 f)
  | [], _, h | [_], _, h | [_, _], _, h => by cases h; exact .inl rfl
  | _ :: _ :: _ :: _, _, h => by cases h

@[simp] theorem pPtr (f : Word → Word → Instr) : FailsOnBase (pPtr f)
  | [], _, h | [_], _, h | [_, _], _, h | [_, _, _], _, h => by cases h; exact .inl rfl
  | _ :: _ :: _ :: _ :: _, _, h => by cases h

/-- The displacement, then whatever comes after it. -/
theorem pMem (md rm : BitVec 3) {k : MemRef → Parser} (hk : ∀ m, FailsOnBase (k m)) : FailsOnBase (pMem md rm k) := by
  intro bs e h
  simp only [Sys2Proof.pMem] at h
  split at h
  · split at h
    · split at h
      · exact hk _ _ _ h
      · cases h; exact .inl rfl
    · exact hk _ _ _ h
  · split at h
    · split at h
      · exact hk _ _ _ h
      · cases h; exact .inl rfl
    · split at h
      · exact hk _ _ _ h
      · cases h; exact .inl rfl

@[simp] theorem pModRM {k : BitVec 3 → Rm (BitVec 3) → Parser} (hk : ∀ n e, FailsOnBase (k n e)) :
    FailsOnBase (pModRM k)
  | [], _, h => by cases h; exact .inl rfl
  | m :: t, e, h => by
    unfold Sys2Proof.pModRM at h
    dsimp only at h
    split at h
    · exact hk _ _ _ _ h
    · exact pMem _ _ (fun r => hk _ (.mem r)) _ _ h

@[simp] theorem pRB (f : Reg8 → Eb → Instr) : FailsOnBase (pRB f) := pModRM fun _ _ => pNone _

@[simp] theorem pRW (f : Reg16 → Ew → Instr) : FailsOnBase (pRW f) := pModRM fun _ _ => pNone _

@[simp] theorem pRWImm16 (f : Reg16 → Ew → Word → Instr) : FailsOnBase (pRWImm16 f) := pModRM fun _ _ => pImm16 _

@[simp] theorem pRWImm8 (f : Reg16 → Ew → Byte → Instr) : FailsOnBase (pRWImm8 f) := pModRM fun _ _ => pImm8 _

/-! A group is one such parser for each value of the `reg` field. -/

@[simp] theorem group80 (n : BitVec 3) (e : Eb) : FailsOnBase (group80 n e) := by
  unfold Sys2Proof.group80; split <;> simp
@[simp] theorem group81 (n : BitVec 3) (e : Ew) : FailsOnBase (group81 n e) := by
  unfold Sys2Proof.group81; split <;> simp
@[simp] theorem group83 (n : BitVec 3) (e : Ew) : FailsOnBase (group83 n e) := by
  unfold Sys2Proof.group83; split <;> simp
@[simp] theorem group8C (n : BitVec 3) (e : Ew) : FailsOnBase (group8C n e) := by
  unfold Sys2Proof.group8C; split <;> simp
@[simp] theorem group8E (n : BitVec 3) (e : Ew) : FailsOnBase (group8E n e) := by
  unfold Sys2Proof.group8E; split <;> simp
@[simp] theorem group8F (n : BitVec 3) (e : Ew) : FailsOnBase (group8F n e) := by
  unfold Sys2Proof.group8F; split <;> simp
@[simp] theorem groupC0 (n : BitVec 3) (e : Eb) : FailsOnBase (groupC0 n e) := by
  unfold Sys2Proof.groupC0; split <;> simp
@[simp] theorem groupC1 (n : BitVec 3) (e : Ew) : FailsOnBase (groupC1 n e) := by
  unfold Sys2Proof.groupC1; split <;> simp
@[simp] theorem groupD0 (n : BitVec 3) (e : Eb) : FailsOnBase (groupD0 n e) := by
  unfold Sys2Proof.groupD0; split <;> simp
@[simp] theorem groupD1 (n : BitVec 3) (e : Ew) : FailsOnBase (groupD1 n e) := by
  unfold Sys2Proof.groupD1; split <;> simp
@[simp] theorem groupD2 (n : BitVec 3) (e : Eb) : FailsOnBase (groupD2 n e) := by
  unfold Sys2Proof.groupD2; split <;> simp
@[simp] theorem groupD3 (n : BitVec 3) (e : Ew) : FailsOnBase (groupD3 n e) := by
  unfold Sys2Proof.groupD3; split <;> simp
@[simp] theorem groupC6 (n : BitVec 3) (e : Eb) : FailsOnBase (groupC6 n e) := by
  unfold Sys2Proof.groupC6; split <;> simp
@[simp] theorem groupC7 (n : BitVec 3) (e : Ew) : FailsOnBase (groupC7 n e) := by
  unfold Sys2Proof.groupC7; split <;> simp
@[simp] theorem groupF6 (n : BitVec 3) (e : Eb) : FailsOnBase (groupF6 n e) := by
  unfold Sys2Proof.groupF6; split <;> simp
@[simp] theorem groupF7 (n : BitVec 3) (e : Ew) : FailsOnBase (groupF7 n e) := by
  unfold Sys2Proof.groupF7; split <;> simp
@[simp] theorem groupFE (n : BitVec 3) (e : Eb) : FailsOnBase (groupFE n e) := by
  unfold Sys2Proof.groupFE; split <;> simp
@[simp] theorem groupFF (n : BitVec 3) (e : Ew) : FailsOnBase (groupFF n e) := by
  unfold Sys2Proof.groupFF; split <;> simp
@[simp] theorem group0F00 (n : BitVec 3) (e : Ew) : FailsOnBase (group0F00 n e) := by
  unfold Sys2Proof.group0F00; split <;> simp
@[simp] theorem group0F01 (n : BitVec 3) (e : Ew) : FailsOnBase (group0F01 n e) := by
  unfold Sys2Proof.group0F01; split <;> simp

@[simp] theorem pTwoByte : FailsOnBase pTwoByte
  | [], _, h => by cases h; exact .inl rfl
  | b :: t, e, h => by
    simp only [Sys2Proof.pTwoByte] at h
    split at h
    · exact pModRM (fun n e => group0F00 n _) _ _ h
    · split at h
      · exact pModRM (fun n e => group0F01 n _) _ _ h
      · split at h
        · exact pRW _ _ _ h
        · split at h
          · exact pRW _ _ _ h
          · split at h <;> cases h

/-- D4: the base is refused with its value. -/
@[simp] theorem pAam : FailsOnBase pAam
  | [], _, h => by cases h; exact .inl rfl
  | b :: t, e, h => by
    simp only [Sys2Proof.pAam] at h
    split at h
    · cases h
    · cases h; exact .inr ⟨b, ‹_›, .inl rfl⟩

/-- D5: the same. -/
@[simp] theorem pAad : FailsOnBase pAad
  | [], _, h => by cases h; exact .inl rfl
  | b :: t, e, h => by
    simp only [Sys2Proof.pAad] at h
    split at h
    · cases h
    · cases h; exact .inr ⟨b, ‹_›, .inr rfl⟩

@[simp] theorem pRep : FailsOnBase pRep
  | [], _, h => by cases h
  | b :: t, e, h => by
    simp only [Sys2Proof.pRep] at h
    split at h <;> cases h

@[simp] theorem pRepne : FailsOnBase pRepne
  | [], _, h => by cases h
  | b :: t, e, h => by
    simp only [Sys2Proof.pRepne] at h
    split at h <;> cases h

end FailsOnBase

/-- Every entry of the opcode map. -/
theorem opMap_failsOnBase : ∀ row ∈ opMap, ∀ p ∈ row, FailsOnBase p := by
  simp only [opMap, List.forall_mem_cons, List.not_mem_nil, false_imp_iff, implies_true, and_true]
  refine ⟨?_, ?_, ?_, ?_, ?_, ?_, ?_, ?_, ?_, ?_, ?_, ?_, ?_, ?_, ?_, ?_⟩
  · simp [opRow0]
  · simp [opRow1]
  · simp [opRow2]
  · simp [opRow3]
  · simp [opRow4]
  · simp [opRow5]
  · simp [opRow6]
  · simp [opRow7]
  · simp [opRow8]
  · simp [opRow9]
  · simp [opRowA]
  · simp [opRowB]
  · simp [opRowC]
  · simp [opRowD]
  · simp [opRowE]
  · simp [opRowF]

theorem opParser_failsOnBase (b : Byte) : FailsOnBase (opParser b) := by
  rw [opParser, List.getD_eq_getElem?_getD, List.getD_eq_getElem?_getD]
  cases hrow : opMap[b.toNat / 16]? with
  | none => exact FailsOnBase.pNone _
  | some row =>
    cases hp : row[b.toNat % 16]? with
    | none => simp [hp]
    | some p =>
      simp only [Option.getD_some, hp]
      exact opMap_failsOnBase row (List.mem_of_getElem? hrow) p (List.mem_of_getElem? hp)

theorem decode_failsOnBase : FailsOnBase decode
  | [], _, h => by cases h; exact .inl rfl
  | b :: t, e, h => opParser_failsOnBase b t e h

end Sys2Proof

namespace Sys2Proof.Machine

/-! ### Every end of a meaning is a next state -/

/-- The meaning ends in a next state. -/
def Answers (o : Out) : Prop := ∃ t, o = .next t

theorem Answers.next (t : State) : Answers (.next t) := ⟨t, rfl⟩

theorem attempt_answers (s : State) (c : Except Exn Unit) (t : State) : Answers (attempt s c t) := by
  cases c <;> exact .next _

theorem attemptIn_answers (f : State) (c : Except Exn Unit) (t : State) : Answers (attemptIn f c t) := by
  cases c <;> exact .next _

theorem finish_answers (s : State) (r : Except Exn State) : Answers (finish s r) := by
  cases r <;> exact .next _

theorem finishT_answers (r : Except Trap State) : Answers (finishT r) := by
  cases r <;> exact .next _

theorem pushMem_answers (s : State) (e : Ew) : Answers (pushMem s e) := by
  unfold pushMem
  split
  · exact attemptIn_answers ..
  · exact .next _

theorem pushAll_answers (s : State) : Answers (pushAll s) := by
  unfold pushAll
  split
  · exact .next _
  · split <;> exact .next _

theorem popAll_answers (s : State) : Answers (popAll s) := by
  unfold popAll
  split
  · exact .next _
  · split <;> exact .next _

theorem waitExt_answers (s : State) : Answers (waitExt s) := by
  unfold waitExt
  split
  · exact .next _
  · split
    · exact attempt_answers ..
    · exact .next _

theorem escExt_answers (s : State) (op : BitVec 6) (e : Ew) : Answers (escExt s op e) := by
  unfold escExt
  split
  · exact .next _
  · split
    · exact .next _
    · split
      · exact .next _
      · exact attempt_answers ..

/-- Every instruction, by the way its meaning ends. -/
theorem exec_answers (i : Instr) (s : State) : Answers (exec i s) := by
  cases i with
  -- checks, then an effect
  | addEbRb | addRbEb | addEbDb | adcRbEb | sbbRbEb | subEbRb | subRbEb | subEbDb | rolEb1 | rorEb1 | notEb | negEb
  | incEb | decEb | addEwRw | addRwEw | addEwDw | addEwDb | adcRwEw | sbbRwEw | subEwRw | subRwEw | subEwDw | subEwDb
  | rolEw1 | rorEw1 | notEw | negEw | incEw | decEw | orEbRb | orRbEb | orEbDb | andEbRb | andRbEb | andEbDb | xorEbRb
  | xorRbEb | xorEbDb | rolEbDb | rorEbDb | salEbDb | shrEbDb | sarEbDb | salEb1 | shrEb1 | sarEb1 | rolEbCl | rorEbCl
  | salEbCl | shrEbCl | sarEbCl | orEwRw | orRwEw | orEwDw | andEwRw | andRwEw | andEwDw | xorEwRw | xorRwEw | xorEwDw
  | imulRwEwDw | imulRwEwDb | rolEwDb | rorEwDb | salEwDb | shrEwDb | sarEwDb | salEw1 | shrEw1 | sarEw1 | rolEwCl
  | rorEwCl | salEwCl | shrEwCl | sarEwCl | cmpEbRb | cmpEwRw | cmpRbEb | cmpRwEw | cmpEbDb | cmpEwDw | cmpEwDb
  | testEbRb | testEwRw | testEbDb | testEwDw | cli | sti | popf | mulEb | imulEb | mulEw | imulEw | divEb | idivEb
  | divEw | idivEw | movRbEb | movRwEw | leaRwM | movAlXb | movAxXw | xlatb | popRw | leave | boundRwMd | hlt | inAlDb
  | inAlDx | inAxDb | inAxDx | outDbAl | outDxAl | outDbAx | outDxAx | lldtEw | retNearDw | retNear | jmpCw | jmpCb
  | jmpEw | clts | lgdtM | lidtM | lmswEw | movEbRb | movEbDb | movEwRw | movEwDw | movEwEs | movEwCs | movEwSs
  | movEwDs | sldtEw | strEw | smswEw | movXbAl | movXwAx | xchgEbRb | xchgEwRw | popMw | sgdtM | sidtM | arplEwRw
  | enterDwDb | movEsEw | movDsEw | movSsEw | popEs | popDs | popSs | lesRwEd | ldsRwEd | ltrEw | verrEw | verwEw
  | larRwEw | lslRwEw | joCb | jnoCb | jbCb | jaeCb | jeCb | jneCb | jbeCb | jaCb | jsCb | jnsCb | jpCb | jnpCb | jlCb
  | jgeCb | jleCb | jgCb | jcxzCb | loopneCb | loopeCb | loopCb | callCw | callEw => exact attempt_answers ..
  -- the same, with the exception raised in another state
  | adcEbRb | adcEbDb | sbbEbRb | sbbEbDb | rclEb1 | rcrEb1 | adcEwRw | adcEwDw | adcEwDb | sbbEwRw | sbbEwDw | sbbEwDb
  | rclEw1 | rcrEw1 | rclEbDb | rcrEbDb | rclEbCl | rcrEbCl | rclEwDb | rcrEwDb | rclEwCl | rcrEwCl | pushEs | pushCs
  | pushSs | pushDs | pushRw | pushDw | pushDb | pushf | insb | insw | outsb | outsw | movsb | movsw | cmpsb | cmpsw
  | stosb | stosw | lodsb | lodsw | scasb | scasw | repInsb | repInsw | repMovsb | repMovsw | repOutsb | repOutsw
  | repStosb | repStosw | repLodsb | repLodsw | repeCmpsb | repeCmpsw | repeScasb | repeScasw | repneCmpsb | repneCmpsw
  | repneScasb | repneScasw => exact attemptIn_answers ..
  -- operations that make their own checks
  | retFarDw | retFar => exact finish_answers ..
  | jmpCd | callCd | jmpMd | callEd | iret => exact finishT_answers _
  | pushMw => exact pushMem_answers ..
  | pusha => exact pushAll_answers s
  | popa => exact popAll_answers s
  | wait => exact waitExt_answers s
  | esc => exact escExt_answers ..
  -- no check at all, or an exception whatever the state
  | addAlDb | adcAlDb | sbbAlDb | subAlDb | addAxDw | adcAxDw | sbbAxDw | subAxDw | incRw | decRw | orAlDb | andAlDb
  | xorAlDb | daa | das | orAxDw | andAxDw | xorAxDw | aaa | aas | aam | aad | cmpAlDb | cmpAxDw | testAlDb | testAxDw
  | sahf | lahf | cmc | clc | stc | cld | std | cbw | cwd | nop | movRbDb | movRwDw | xchgAxRw | segEs | segCs | segSs
  | segDs | lock | repne | rep | intDb | int3 | into
  | ud0F | ud83_1 | ud83_4 | ud83_6 | ud64 | ud65 | ud66 | ud67 | ud82 | ud8C_4 | ud8C_5 | ud8C_6 | ud8C_7 | ud8E_1
  | ud8E_4 | ud8E_5 | ud8E_6 | ud8E_7 | udC0_6 | udC1_6 | udD0_6 | udD1_6 | udD2_6 | udD3_6 | udC6_1 | udC6_2 | udC6_3
  | udC6_4 | udC6_5 | udC6_6 | udC6_7 | udC7_1 | udC7_2 | udC7_3 | udC7_4 | udC7_5 | udC7_6 | udC7_7 | udD6 | udF1
  | udF6_1 | udF7_1 | udFE_2 | udFE_3 | udFE_4 | udFE_5 | udFE_6 | udFE_7 | ud0F00_6 | ud0F00_7 | ud0F01_5 | ud0F01_7
  | gp8F_1 | gp8F_2 | gp8F_3 | gp8F_4 | gp8F_5 | gp8F_6 | gp8F_7 | gpFF_7 => exact .next _

/-! ### The step -/

/-- The outcome is a next state or a refusal of D4 or D5 with a base other than 0AH. -/
def RefusesBaseOnly (o : Out) : Prop :=
  Answers o ∨ ∃ r, o = .refused r ∧ ∃ b : Byte, b ≠ 0x0A ∧ (r = .aamBase b ∨ r = .aadBase b)

theorem Answers.refusesBaseOnly {o : Out} (h : Answers o) : RefusesBaseOnly o := .inl h

theorem runMain_answers (i : Instr) (s : State) : Answers (runMain i s) := by
  unfold runMain
  split
  · exact .next _
  · split
    · exact exec_answers i s
    · split
      · exact .next _
      · exact exec_answers i s

theorem refuseMain_refusesBaseOnly {r : Refusal} {b : Byte} (hb : b ≠ 0x0A) (hr : r = .aamBase b ∨ r = .aadBase b)
    (s : State) : RefusesBaseOnly (refuseMain r s) := by
  unfold refuseMain
  split
  · exact (Answers.next _).refusesBaseOnly
  · split
    · exact (Answers.next _).refusesBaseOnly
    · exact .inr ⟨r, rfl, b, hb, hr⟩

/-- The decoding loop, by induction on its rounds: a prefix answers, and the loop goes on. -/
theorem runTokens_refusesBaseOnly : ∀ (k : Nat) (s : State), RefusesBaseOnly (runTokens k s)
  | 0, s => (Answers.next _).refusesBaseOnly
  | k + 1, s => by
    rw [runTokens]
    dsimp only
    split
    · exact (Answers.next _).refusesBaseOnly
    · rename_i b hd
      obtain hd | ⟨c, hc, hd | hd⟩ := decode_failsOnBase _ _ hd
      · cases hd
      · cases hd
        exact refuseMain_refusesBaseOnly hc (.inl rfl) s
      · cases hd
    · rename_i b hd
      obtain hd | ⟨c, hc, hd | hd⟩ := decode_failsOnBase _ _ hd
      · cases hd
      · cases hd
      · cases hd
        exact refuseMain_refusesBaseOnly hc (.inr rfl) s
    · rename_i i rest hd
      split
      · obtain ⟨u, hu⟩ :=
          exec_answers i (s.consumed (s.cur.len + ((s.fetch tokenBytes (s.ip.toNat + s.cur.len)).length - rest.length)))
        rw [hu]
        exact runTokens_refusesBaseOnly k u
      · exact (runMain_answers i _).refusesBaseOnly

theorem step_refusesBaseOnly (s : State) : RefusesBaseOnly (step s) := by
  unfold step State.cycle
  split
  · exact (Answers.next _).refusesBaseOnly
  · split
    · unfold State.instrCycle
      obtain ⟨t, ht⟩ | ⟨r, hr, hbase⟩ := runTokens_refusesBaseOnly tokenFuel s.atBoundary.begin
      · rw [ht]
        exact (Answers.next _).refusesBaseOnly
      · rw [hr]
        exact .inr ⟨r, rfl, hbase⟩
    · exact (Answers.next _).refusesBaseOnly

/-- Settles O55: an instruction answers however its meaning ends, and a step ends as its decoding loop does. -/
theorem everyInstructionAnswers : Obligations.EveryInstructionAnswers := by
  refine ⟨exec_answers, fun s f h => ?_, fun s r h => ?_⟩
  · obtain ⟨t, ht⟩ | ⟨q, hq, -⟩ := step_refusesBaseOnly s
    · cases ht.symm.trans h
    · cases hq.symm.trans h
  · obtain ⟨t, ht⟩ | ⟨q, hq, hbase⟩ := step_refusesBaseOnly s
    · cases ht.symm.trans h
    · cases hq.symm.trans h
      exact hbase

end Sys2Proof.Machine
end

section
/-!
SUPPORT. What a transfer through descriptors leaves in memory: the mark of an accessed descriptor, and words pushed
before and after such marks.
-/

namespace Sys2Proof.Machine

/-! ### States with the same descriptors' places -/

section
variable {s t : State}

theorem SameSystem.bus (h : SameSystem s t) : SameBus s t := by
  obtain ⟨hmsw, -, -, -, -, -, -, -, -, -, -, -, -, henv⟩ := h
  exact ⟨by rw [hmsw], henv⟩

theorem SameSystem.tables (h : SameSystem s t) : SameTables s t := by
  obtain ⟨-, -, htables, -⟩ := h
  exact htables

theorem SameTables.descAddr (h : SameTables s t) (sel : Word) : t.descAddr sel = s.descAddr sel := by
  obtain ⟨hgdtr, -, hldtr, -⟩ := h
  rw [State.descAddr, State.descAddr, State.tableBase, State.tableBase, hgdtr, hldtr]

theorem SameBus.accessCell (hb : SameBus s t) (ht : SameTables s t) (sel : Word) :
    t.accessCell sel = s.accessCell sel := by
  rw [State.accessCell, State.accessCell, hb.cell, ht.descAddr]

/-- Setting an Accessed bit stores one byte (21 R166). -/
theorem SameBus.setAccessed_effect (hb : SameBus s t) (ht : SameTables s t) (hc : Canonical t) (sel : Word) (d : Desc) :
    HoldsByte s (t.setAccessed sel d) (s.accessCell sel) (d.access ||| 1) ∧
      SameMemoryBut t (t.setAccessed sel d) [s.accessCell sel] ∧ Canonical (t.setAccessed sel d) := by
  rw [State.setAccessed, State.setAccessByte, ht.descAddr]
  exact ⟨hb.byte_holds hc _ _, hb.byte_frame _ _, State.writeByte_wf hc _ _⟩

end

/-- Descriptors whose access bytes share a cell have the same access byte. -/
theorem State.access_of_accessCell {s : State} {a b : Word} (h : s.accessCell a = s.accessCell b) :
    (s.desc a).access = (s.desc b).access :=
  congrArg (readCell s.mem) h

/-- Two descriptors marked one after the other, perhaps the same one. -/
theorem State.setAccessed_twice {s : State} (h : Canonical s) (a b : Word) :
    let t := (s.setAccessed a (s.desc a)).setAccessed b (s.desc b)
    MarkedAccessed s t a ∧ MarkedAccessed s t b ∧ SameMemoryBut s t [s.accessCell a, s.accessCell b] ∧ Canonical t := by
  intro t
  obtain ⟨hfirst, hmem, hc⟩ := (SameBus.refl s).setAccessed_effect ⟨rfl, rfl, rfl, rfl⟩ h a (s.desc a)
  have hb : SameBus s (s.setAccessed a (s.desc a)) := ⟨rfl, rfl⟩
  have htables : SameTables s (s.setAccessed a (s.desc a)) := ⟨rfl, rfl, rfl, rfl⟩
  obtain ⟨hsecond, hmem', hc'⟩ := hb.setAccessed_effect htables hc b (s.desc b)
  refine ⟨?_, hsecond, hmem.trans hmem', hc'⟩
  by_cases hab : s.accessCell a = s.accessCell b
  · rw [MarkedAccessed, hab, State.access_of_accessCell hab]
    exact hsecond
  · exact hfirst.keep hmem' (by simpa using hab)

/-! ### A frame with marks between its words -/

theorem FramePushed.nil {s t : State} {x : List Nat} (hmem : SameMemoryBut s t x) (hregs : t.regs = s.regs) :
    FramePushed s t [] x := by
  refine ⟨fun i hi => absurd hi (Nat.not_lt_zero i), hmem.mono (by simp), ?_, fun r _ => ?_⟩
  · rw [State.reg, hregs]
    simp [State.reg]
  · rw [State.reg, hregs, State.reg]

section
variable {s t : State} {l : List Word} {x : List Nat} (h : FramePushed s t l x)
include h

/-- A store outside the stack may reach the frame; where it does is left out. -/
theorem FramePushed.store {u : State} {k : List Nat} (hmem : SameMemoryBut t u k) (hregs : u.regs = t.regs) :
    FramePushed s u l (x ++ k) := by
  obtain ⟨hholds, hframe, hsp, hrest⟩ := h
  have hreg (r : Reg16) : u.reg r = t.reg r := by rw [State.reg, hregs, State.reg]
  refine ⟨fun i hi => ?_, ?_, by rw [hreg, hsp], fun r hr => by rw [hreg, hrest r hr]⟩
  · obtain ⟨hlo, hhi⟩ := hholds i hi
    exact ⟨fun hx => (hlo fun hin => hx (List.mem_append_left k hin)).keep hmem fun hin =>
        hx (List.mem_append_right x hin),
      fun hx => (hhi fun hin => hx (List.mem_append_left k hin)).keep hmem fun hin => hx (List.mem_append_right x hin)⟩
  · rw [← List.append_assoc]
    exact hframe.trans hmem

variable (hb : SameBus s t) (hss : t.ss = s.ss) (hc : Canonical t)
include hb hss hc

/-- One word more, below those that are there. -/
theorem FramePushed.push (w : Word) (hl : l.length < 2 ^ 15 - 1) : FramePushed s (t.push w) (l ++ [w]) x := by
  obtain ⟨hholds, hframe, hsp, hrest⟩ := h
  obtain ⟨hword, hmem, hsp', hrest'⟩ := State.push_effect hc w
  have haddr : t.stackAddr 2 = s.stackAddr (BitVec.ofNat 16 (2 * (l.length + 1))) := by
    simp only [State.stackAddr, State.linear, State.seg, hss, State.spDown, hsp, sub_sub_two]
  rw [haddr, hb.wordCells] at hmem
  rw [haddr, hb.holdsWord] at hword
  have hlen : (l ++ [w]).length = l.length + 1 := by simp
  refine ⟨fun i hi => ?_, ?_, ?_, fun r hr => (hrest' r hr).trans (hrest r hr)⟩
  · rw [hlen] at hi
    rcases Nat.lt_succ_iff_lt_or_eq.1 hi with hlt | rfl
    · rw [List.getElem_append_left hlt]
      obtain ⟨hlo, hhi⟩ := hholds i hlt
      have hapart := s.frame_disjoint (by omega) hl (Nat.ne_of_lt hlt)
      exact ⟨fun hx => (hlo hx).keep hmem (hapart _ List.mem_cons_self),
        fun hx => (hhi hx).keep hmem (hapart _ (List.mem_cons_of_mem _ List.mem_cons_self))⟩
    · obtain ⟨hlo, hhi⟩ := hword
      rw [List.getElem_concat_length rfl]
      exact ⟨fun _ => hlo, fun _ => hhi⟩
  · rw [hlen, s.belowCells_succ]
    refine (hframe.trans hmem).mono fun a ha => ?_
    simp only [List.mem_append] at ha ⊢
    tauto
  · rw [hsp', State.spDown, hsp, sub_sub_two, hlen]

end

/-- A row of words more. -/
theorem FramePushed.pushes {s : State} {x : List Nat} (k : List Word) : ∀ {t : State} {l : List Word},
    FramePushed s t l x → SameBus s t → t.ss = s.ss → Canonical t → (l ++ k).length < 2 ^ 15 →
    FramePushed s (t.pushes k) (l ++ k) x := by
  induction k with
  | nil =>
    intro t l h _ _ _ _
    rwa [List.append_nil]
  | cons w k ih =>
    intro t l h hb hss hc hl
    rw [List.length_append, List.length_cons] at hl
    have hpush := h.push hb hss hc w (by omega)
    rw [List.append_cons]
    exact ih hpush (hb.trans ⟨rfl, rfl⟩) hss (State.push_wf hc w) (by simp; omega)

end Sys2Proof.Machine
end

section
/-!
Protected Mode transfers to a code segment without a change of level (47 R640, R641, R650, R660, R670): a row of pushes
or pops, then CS:IP from the descriptor of the state before.
-/

namespace Sys2Proof.Machine

/-! ### CS:IP from a descriptor -/

theorem State.cpl_protected {s : State} (hp : s.msw.pe = true) : s.cpl = selRpl s.cs.sel := if_pos hp

/-- LoadCS in a state whose system is that of `s` (21 R193). -/
theorem SameSystem.farCode {s u : State} (hsys : SameSystem s u) (hp : s.msw.pe = true) (hc : Canonical u)
    (sel off : Word) :
    let t := (u.loadCs sel (s.desc sel) s.cpl).setIp off
    FarCode s t sel off ∧ SameMemoryBut u t [s.accessCell sel] ∧ t.cpl = s.cpl := by
  intro t
  obtain ⟨hmark, hmem, -⟩ := hsys.bus.setAccessed_effect hsys.tables hc sel (s.desc sel)
  obtain ⟨hmsw, ⟨-, hss, hds, hes⟩, htables, hhidden⟩ := hsys
  have hcpl : t.cpl = s.cpl := by
    have hpt : t.msw.pe = true := (congrArg Msw.pe hmsw).trans hp
    exact (State.cpl_protected hpt).trans (selRpl_selWithRpl sel s.cpl)
  exact ⟨⟨rfl, rfl, rfl, rfl, rfl, ⟨rfl, rfl⟩, hmark.congr rfl, hss, hds, hes, hmsw, htables, hhidden⟩, hmem.congr rfl,
    hcpl⟩

theorem codeFits_iff (ar : Byte) (p : BitVec 2) : codeFits ar p = true ↔
    if arConforming ar then (arDpl ar).toNat ≤ p.toNat else arDpl ar = p := by
  unfold codeFits
  split <;> simp

theorem checkOffset_ok {off : Word} {d : Desc} : checkOffset off d = .ok () ↔ off.toNat ≤ d.limit.toNat := by
  rw [checkOffset, require_ok, decide_eq_true_iff]

theorem State.checkFarSel_ok {s : State} {sel : Word} :
    s.checkFarSel sel = .ok () ↔ selNull sel = false ∧ s.inTable sel = true := by
  simp [State.checkFarSel]

/-! ### JMP and CALL -/

namespace EntersCode

variable {s : State} {sel off : Word} (h : EntersCode s sel off)
include h

theorem checkFarSel : s.checkFarSel sel = .ok () := State.checkFarSel_ok.2 ⟨h.notNull, h.inTable⟩

/-- Conforming code needs DPL at most CPL; other code needs DPL and RPL as well. -/
theorem checkCodeSel : s.checkCodeSel sel = .ok () := by
  have hlevel := h.privilege
  simp only [State.checkCodeSel, bind_ok, require_ok, codeFits_iff, h.present, and_true]
  split
  · rename_i hconf
    rw [if_pos hconf] at hlevel
    simp only [hconf, Bool.true_or, true_and]
    exact hlevel
  · rename_i hconf
    rw [if_neg hconf] at hlevel
    obtain ⟨hrpl, hdpl⟩ := hlevel
    exact ⟨by simp [hrpl], hdpl⟩

theorem farJmpProt : s.farJmpProt sel off = .ok (s.enterCode sel off) := by
  have hjmp : s.checkJmpCode sel off = .ok () := bind_ok.2 ⟨h.checkCodeSel, checkOffset_ok.2 h.inside⟩
  simp only [State.farJmpProt, h.checkFarSel, h.code, if_true, hjmp]
  rfl

theorem farCallProt (hroom : s.stackRoom 2 = true) : s.farCallProt sel off = .ok (s.callCode sel off) := by
  have hcall : s.checkCallRoom sel off = .ok () := bind_ok.2 ⟨(require_ok ..).2 hroom, checkOffset_ok.2 h.inside⟩
  simp only [State.farCallProt, h.checkFarSel, h.code, if_true, h.checkCodeSel, hcall]
  rfl

end EntersCode

theorem State.jmpFar_protected {s : State} (hp : s.msw.pe = true) (sel off : Word) :
    s.jmpFar sel off = s.farJmpProt sel off := if_pos hp

theorem State.callFar_protected {s : State} (hp : s.msw.pe = true) (sel off : Word) :
    s.callFar sel off = s.farCallProt sel off := if_pos hp

theorem State.retFar_protected {s : State} (hp : s.msw.pe = true) (imm : Word) :
    s.retFar imm = s.farRetProt imm := if_pos hp

/-- Settles O27: both transfers load CS:IP from the descriptor of the state before, the CALL after its two pushes. -/
theorem farToCodeSegment : Obligations.FarToCodeSegment := by
  intro s i sel off h hp henters
  refine ⟨fun hi => ?_, fun hi hroom => ?_⟩
  · obtain ⟨hcode, hmem, hcpl⟩ := (SameSystem.refl s).farCode hp h sel off
    refine ⟨s.enterCode sel off, ?_, hcode, fun _ _ => rfl, hmem, rfl, hcpl⟩
    rw [hi.exec_eq, State.jmpFar_protected hp, henters.farJmpProt]
    rfl
  · have hsys := s.pushes_sameSystem [s.cs.sel, s.nextIp]
    obtain ⟨⟨hholds, hframe, hsp, hregs⟩, hc⟩ := State.pushes_frame h [s.cs.sel, s.nextIp] (by simp)
    obtain ⟨hcsLo, hcsHi⟩ := hholds 0 (by simp)
    obtain ⟨hipLo, hipHi⟩ := hholds 1 (by simp)
    obtain ⟨hcode, hmem, hcpl⟩ := hsys.farCode hp hc sel off
    have hcs : HoldsWord s (s.pushes [s.cs.sel, s.nextIp]) (s.stackAddr 2) s.cs.sel :=
      ⟨hcsLo (by simp), hcsHi (by simp)⟩
    have hip : HoldsWord s (s.pushes [s.cs.sel, s.nextIp]) (s.stackAddr 4) s.nextIp :=
      ⟨hipLo (by simp), hipHi (by simp)⟩
    refine ⟨s.callCode sel off, ?_, hcode, hsp, hregs, (hframe.trans hmem).mono ?_,
      (hcs.but []).keep hmem (List.nil_subset _) (List.Subset.refl _),
      (hip.but []).keep hmem (List.nil_subset _) (List.Subset.refl _), rfl, hcpl⟩
    · rw [hi.exec_eq, State.callFar_protected hp, henters.farCallProt hroom]
      rfl
    · simp [State.belowCells, List.range_succ]

/-! ### Returns -/

/-- The second word from SP up is the return selector, which is read on its own (47 R660, R670). -/
theorem State.checkFrame_second {s : State} {k : Nat} (hrights : s.segRights .ss false = true)
    (hframe : s.checkFrame (k + 2) = .ok ()) : s.check .ss (s.reg .sp + 2) 2 false = .ok () := by
  obtain ⟨husable, hwords⟩ := (s.checkFrame_iff _).1 hframe
  exact (s.check_ok ..).2 ⟨husable, hrights, hwords 1 (by omega)⟩

theorem ReturnsTo.checkRetCs {s : State} {sel off : Word} {p : BitVec 2} (h : ReturnsTo s sel off p) :
    s.checkRetCs sel p = .ok () := by
  simp only [State.checkRetCs, bind_ok, require_ok, codeFits_iff, h.notNull, h.inTable, h.code, h.present,
    Bool.not_false, true_and, and_true]
  exact h.level

section
variable {s : State} (hp : s.msw.pe = true) (hrights : s.segRights .ss false = true)
  (hrpl : selRpl (s.stackWord 2) = s.cpl) (hreturns : ReturnsTo s (s.stackWord 2) (s.stackWord 0) s.cpl)
include hp hrights hrpl hreturns

/-- FLAGS and SP change after CS:IP; what they become depends on the state before (47 R670). -/
theorem State.iret_same (hframe : s.checkFrame 3 = .ok ()) (hnt : s.flags.nt = false) :
    s.iret = .ok ((((s.loadCs (s.stackWord 2) (s.desc (s.stackWord 2)) s.cpl).setIp (s.stackWord 0)).setFlags
      (s.flags.loadProt s.cpl (s.stackWord 4))).popBytes 6).unmaskNmi := by
  have hinside : decide ((s.stackWord 0).toNat ≤ (s.desc (s.stackWord 2)).limit.toNat) = true :=
    decide_eq_true hreturns.inside
  simp only [State.iret, hp, hnt, State.iretStack, State.checkFrame_second hrights hframe, hrpl, State.iretSame, hframe,
    hreturns.checkRetCs, hinside]
  simp only [le_refl, decide_true, if_true]
  rfl

theorem State.retFar_same (hframe : s.checkFrame 2 = .ok ()) (imm : Word) :
    s.retFar imm = .ok (s.retSame (s.stackWord 2) imm) := by
  obtain ⟨husable, hfirst⟩ := State.checkFrame_first hframe
  have hsame : s.checkRetSame (s.stackWord 2) = .ok () := bind_ok.2 ⟨hreturns.checkRetCs,
    bind_ok.2 ⟨(s.check_ok ..).2 ⟨husable, hrights, hfirst⟩, checkOffset_ok.2 hreturns.inside⟩⟩
  simp only [State.retFar_protected hp, State.farRetProt, State.checkFrame_second hrights hframe, hrpl, hsame]
  simp only [le_refl, decide_true, if_true]
  rfl

end

/-- Settles O44: CS:IP is loaded in the state with SP raised already, which is the same. -/
theorem returnsAtSameLevel : Obligations.ReturnsAtSameLevel := by
  intro s h hp hrights sel w hrpl hreturns P
  refine ⟨fun hframe hnt => ?_, fun hframe => ?_⟩
  · obtain ⟨hsp, hregs, -⟩ := s.setReg_effect .sp (s.reg .sp + 6)
    have hsys : SameSystem s.unmaskNmi ((s.popBytes 6).setFlags (s.flags.loadProt s.cpl w)).unmaskNmi :=
      SameSystem.refl s.unmaskNmi
    obtain ⟨hcode, hmem, hcpl⟩ := hsys.farCode hp h sel (s.stackWord 0)
    refine ⟨_, ?_, ⟨hcode, hsp, hregs, hmem, hcpl⟩, rfl⟩
    change finishT s.iret = _
    rw [State.iret_same hp hrights hrpl hreturns hframe hnt]
    rfl
  · have hret {i : Instr} {imm : Word} (hi : ReturnsFar i imm) :
        Ends i s fun t => P s (4 + imm) t ∧ t.flags = s.flags := by
      obtain ⟨hsp, hregs, -⟩ := s.setReg_effect .sp (s.reg .sp + (4 + imm))
      have hsys : SameSystem s (s.popBytes (4 + imm)) := SameSystem.refl s
      obtain ⟨hcode, hmem, hcpl⟩ := hsys.farCode hp h sel (s.stackWord 0)
      refine ⟨_, ?_, ⟨hcode, hsp, hregs, hmem, hcpl⟩, rfl⟩
      rw [hi.exec_eq, State.retFar_same hp hrights hrpl hreturns hframe]
      rfl
    exact ⟨hret (.inr ⟨rfl, rfl⟩), fun imm => hret (.inl rfl)⟩

end Sys2Proof.Machine
end

section
/-!
A trap or interrupt gate without a change of level (47 R665; 60 R780 to R785): three words, CS:IP from the gate, the
error code if there is one, FLAGS.
-/

namespace Sys2Proof.Machine

/-! ### The tests -/

section
variable {s : State} {n : Byte} {k : Nat} (h : GateReady s n k)
include h

theorem GateReady.checkGate {ev : Event} (hvec : ev.vec = n)
    (hlevel : ev.kind = .software → s.cpl.toNat ≤ (s.idtGate n).dpl.toNat) :
    s.checkGate ev (s.idtGate n) = .ok () := by
  subst hvec
  have hkind : (arType (s.idtGate ev.vec).access == 0x05 || arType (s.idtGate ev.vec).access == 0x06 ||
      arType (s.idtGate ev.vec).access == 0x07) = true := by
    rcases h.kind with hk | hk <;> rw [hk] <;> decide
  have hpriv : (!(ev.kind == .software && decide ((s.idtGate ev.vec).dpl.toNat < s.cpl.toNat))) = true := by
    by_cases hs : ev.kind = .software
    · simp [hlevel hs]
    · simp [hs]
  simp only [State.checkGate, bind_ok, require_ok, hkind, hpriv, h.gatePresent, h.inIdt, decide_true, and_self]

theorem GateReady.not_taskGate : (arType (s.idtGate n).access == 0x05) = false := by
  rcases h.kind with hk | hk <;> rw [hk] <;> decide

theorem GateReady.codeFits : codeFits (s.desc (s.idtGate n).gateSel).access s.cpl = true :=
  (codeFits_iff ..).2 h.level

/-- Conforming code runs at any level from its DPL up, other code at its DPL only. -/
theorem GateReady.not_inner : (!arConforming (s.desc (s.idtGate n).gateSel).access &&
    decide ((s.desc (s.idtGate n).gateSel).dpl.toNat < s.cpl.toNat)) = false := by
  have hlevel := h.level
  split at hlevel
  · simp [*]
  · simp [hlevel]

end

/-! ### The handler -/

theorem State.pushErr_eq (s : State) (err : Option Word) : s.pushErr err = s.pushes err.toList := by
  cases err <;> rfl

theorem Event.errWords_eq (ev : Event) : ev.errWords = ev.err.toList.length := by
  unfold Event.errWords
  cases ev.err <;> rfl

/-- CS:IP of the handler, with the three words of every frame on the stack. -/
def State.gateCode (s : State) (ev : Event) : State :=
  ((s.pushes [s.flags.toWord, s.cs.sel, ev.retIp]).loadCs (s.idtGate ev.vec).gateSel
    (s.desc (s.idtGate ev.vec).gateSel) s.cpl).setIp (s.idtGate ev.vec).gateOffset

/-- The handler's first state (47 R665 steps 6 to 11). -/
def State.atHandler (s : State) (ev : Event) : State :=
  (((s.gateCode ev).pushErr ev.err).setFlags (s.flags.entryProt (s.idtGate ev.vec).isIntGate)).resume

/-- The mark of the code segment may lie in the frame, where only the error code comes after it. -/
theorem State.atHandler_took {s : State} (hp : s.msw.pe = true) (hc : Canonical s) (ev : Event) :
    TookGate s (s.atHandler ev) ev.vec ev.retIp ev.err := by
  obtain ⟨hframe, hc3⟩ := State.pushes_frame hc [s.flags.toWord, s.cs.sel, ev.retIp] (by simp)
  have hsys := s.pushes_sameSystem [s.flags.toWord, s.cs.sel, ev.retIp]
  obtain ⟨hcode, hmem, hcpl⟩ := hsys.farCode hp hc3 (s.idtGate ev.vec).gateSel (s.idtGate ev.vec).gateOffset
  obtain ⟨-, -, -, -, -, -, -, hss, hds, hes, hmsw, htables, hhidden⟩ := hcode
  have hc4 : Canonical (s.gateCode ev) := by
    obtain ⟨-, -, hc4⟩ := hsys.bus.setAccessed_effect hsys.tables hc3 (s.idtGate ev.vec).gateSel
      (s.desc (s.idtGate ev.vec).gateSel)
    exact hc4
  have hall : FramePushed s ((s.gateCode ev).pushErr ev.err) ([s.flags.toWord, s.cs.sel, ev.retIp] ++ ev.err.toList)
      [s.accessCell (s.idtGate ev.vec).gateSel] := by
    rw [State.pushErr_eq]
    refine (hframe.store hmem rfl).pushes ev.err.toList (hsys.bus.trans ⟨rfl, rfl⟩) hss hc4 ?_
    cases ev.err <;> simp
  have hflags : s.flags.entryProt (s.idtGate ev.vec).isIntGate = { s.flags with
      tf := false, nt := false, ief := if arType (s.idtGate ev.vec).access = 6 then false else s.flags.ief } := by
    simp only [Flags.entryProt, Desc.isIntGate, beq_iff_eq]
  obtain ⟨g, m, herr⟩ : ∃ g m, (s.gateCode ev).pushErr ev.err = { s.gateCode ev with regs := g, mem := m } :=
    ⟨_, _, by rw [State.pushErr_eq, State.pushes_eq]⟩
  rw [State.atHandler, herr, hflags]
  rw [herr] at hall
  exact ⟨hall, rfl, rfl, rfl, rfl, rfl, hcpl, ⟨rfl, rfl⟩, rfl, hss, hds, hes, hmsw, htables, hhidden.resume⟩

section
variable {s : State} (hp : s.msw.pe = true) {ev : Event} (h : GateReady s ev.vec (3 + ev.err.toList.length))
include h

theorem GateReady.enterGate : s.enterGate ev (s.idtGate ev.vec) = .ok
    (((s.gateCode ev).pushErr ev.err).setFlags (s.flags.entryProt (s.idtGate ev.vec).isIntGate)) := by
  have hroom : s.stackRoom (3 + ev.errWords) = true := by
    rw [ev.errWords_eq]
    exact h.room
  have hinside := decide_eq_true h.inside
  have hflags : ((s.gateCode ev).pushErr ev.err).flags = s.flags := by
    rw [State.pushErr_eq, State.pushes_eq]
    rfl
  rw [← hflags]
  simp only [State.enterGate, h.notNull, h.inTable, h.code, h.present, h.not_inner, h.codeFits, State.enterSame, hroom,
    hinside]
  rfl

include hp

theorem GateReady.deliver (hlevel : ev.kind = .software → s.cpl.toNat ≤ (s.idtGate ev.vec).dpl.toNat) :
    s.deliver ev = s.atHandler ev := by
  have hprot : s.deliverProt ev = .ok (s.atHandler ev) := by
    simp only [State.deliverProt, h.checkGate rfl hlevel, h.not_taskGate, h.enterGate]
    rfl
  rw [State.deliver, hp, hprot]
  rfl

theorem GateReady.deliver_took (hlevel : ev.kind = .software → s.cpl.toNat ≤ (s.idtGate ev.vec).dpl.toNat)
    (hc : Canonical s) : TookGate s (s.deliver ev) ev.vec ev.retIp ev.err := by
  rw [h.deliver hp hlevel]
  exact State.atHandler_took hp hc ev

end

/-- Settles O43: an exception other than 7 and 16 is a fault, which no DPL stops; INT n and INT 3 are software. -/
theorem gateAtSameLevel : Obligations.GateAtSameLevel := by
  intro s hc hp
  have soft (n : Byte) (h : GateReady s n 3) (hlevel : s.cpl.toNat ≤ (s.idtGate n).dpl.toNat) :
      TookGate s (s.softInt n) n s.nextIp none :=
    GateReady.deliver_took hp (ev := { vec := n, kind := .software, retIp := s.nextIp, err := none }) h
      (fun _ => hlevel) hc
  refine ⟨fun n code h7 h16 h => ?_, fun n h hlevel => ⟨_, rfl, soft n h hlevel⟩,
    fun h hlevel => ⟨_, rfl, soft 3 h hlevel⟩⟩
  have hkind : raisedKind n = .fault := if_neg (not_or.2 ⟨h7, h16⟩)
  have htook := GateReady.deliver_took hp (ev := { vec := n, kind := raisedKind n, retIp := s.ip, err := code }) h
    (fun hs => by rw [hkind] at hs; cases hs) hc
  exact htook

end Sys2Proof.Machine
end

section
/-!
Changes of level (47 R651 to R653, R661): a far RET to an outer level, with what it does to DS and ES, and a CALL
through a call gate to an inner level.
-/

namespace Sys2Proof.Machine

/-! ### RET to an outer level -/

/-- What is left of DS or ES at the outer level `p` (21 R199). -/
def State.outerSeg (s : State) (g : Seg) (p : BitVec 2) : Seg := if s.validForOuter g p then g else g.nulled 0

theorem State.nullIfInner_eq (s : State) (r : SReg) (p : BitVec 2) :
    s.nullIfInner r p = s.setSeg r (s.outerSeg (s.seg r) p) := by
  unfold State.nullIfInner State.outerSeg
  split <;> cases r <;> rfl

theorem State.validForOuter_iff (s : State) (g : Seg) (p : BitVec 2) :
    s.validForOuter g p = true ↔ ValidAtLevel s g p := by
  simp [State.validForOuter, ValidAtLevel, and_assoc]

theorem State.outerSeg_effect (s : State) (g : Seg) (p : BitVec 2) :
    (ValidAtLevel s g p → s.outerSeg g p = g) ∧
      (¬ValidAtLevel s g p →
        (s.outerSeg g p).sel = 0 ∧ (s.outerSeg g p).access = 0 ∧ (s.outerSeg g p).valid = false) := by
  rw [← s.validForOuter_iff]
  refine ⟨fun hv => if_pos hv, fun hv => ?_⟩
  rw [State.outerSeg, if_neg hv]
  exact ⟨rfl, rfl, rfl⟩

/-- CS:IP and SS:SP of the outer level, before DS and ES are judged (47 R661 step 15). -/
def State.outerStack (s : State) (rcs rip rss rsp : Word) : State :=
  (((s.loadCs rcs (s.desc rcs) (selRpl rcs)).setIp rip).loadSeg .ss rss (s.desc rss)).setReg .sp rsp

/-- DS and ES are judged by their own contents and the tables, which the loads of CS and SS keep. -/
theorem State.applyOuter_eq (s : State) (rcs rip rss rsp : Word) : s.applyOuter rcs rip rss rsp =
    { s.outerStack rcs rip rss rsp with
      es := s.outerSeg s.es (selRpl rcs), ds := s.outerSeg s.ds (selRpl rcs) } := by
  rw [State.applyOuter, State.nullIfInner_eq, State.nullIfInner_eq]
  rfl

/-- The tests of a far RET leave CPL and RPL different (47 R660 step 3, R661). -/
theorem State.retFar_outer {s : State} (hp : s.msw.pe = true) {imm : Word}
    (hsel : s.check .ss (s.reg .sp + 2) 2 false = .ok ()) (hlevel : s.cpl.toNat < (selRpl (s.stackWord 2)).toNat)
    (htests : s.checkRetOuter (s.stackWord 2) imm = .ok ()) : s.retFar imm = .ok (s.retOuter (s.stackWord 2) imm) := by
  have hne : selRpl (s.stackWord 2) ≠ s.cpl := fun he => absurd hlevel (by rw [he]; exact lt_irrefl _)
  have hle : decide (s.cpl.toNat ≤ (selRpl (s.stackWord 2)).toNat) = true := decide_eq_true hlevel.le
  simp only [State.retFar_protected hp, State.farRetProt, hsel, hle, if_neg hne, htests]
  rfl

/-- The tests on a selector for SS ask for its RPL (21 R191). -/
theorem State.selRpl_of_checkSs {s : State} {sel : Word} {p : BitVec 2} {null : Exn} {bad : Word → Exn} {ext : Bool}
    (h : s.checkSs sel p null bad ext = .ok ()) : selRpl sel = p := by
  simp only [State.checkSs, bind_ok, require_ok, beq_iff_eq] at h
  obtain ⟨-, -, hrpl, -⟩ := h
  exact hrpl

theorem State.selRpl_of_checkRetOuter {s : State} {rcs imm : Word} (h : s.checkRetOuter rcs imm = .ok ()) :
    selRpl (s.stackWord (6 + imm)) = selRpl rcs := by
  simp only [State.checkRetOuter, bind_ok] at h
  obtain ⟨-, -, hss, -⟩ := h
  exact State.selRpl_of_checkSs hss

/-- Settles O45: CS and SS are loaded from the descriptors of the state before, DS and ES after both. -/
theorem farReturnOuterLevel : Obligations.FarReturnOuterLevel := by
  intro s i imm h hp hi hsel hlevel htests rcs rss p
  obtain ⟨hmarkCs, hmarkSs, hmem, -⟩ := State.setAccessed_twice h rcs rss
  obtain ⟨hsp, hregs, -⟩ := s.setReg_effect .sp (s.stackWord (4 + imm) + imm)
  refine ⟨s.retOuter rcs imm, ?_, ?_⟩
  · rw [hi.exec_eq, State.retFar_outer hp hsel hlevel htests]
    rfl
  · rw [State.retOuter, State.applyOuter_eq]
    refine ⟨(if_pos hp).trans (selRpl_selWithRpl rcs p), selWithRpl_selRpl rcs, ⟨rfl, rfl, rfl, rfl⟩, ⟨rfl, rfl⟩, rfl,
      ⟨rfl, rfl, rfl, rfl⟩, State.selRpl_of_checkRetOuter htests, hsp, hregs, ?_, hmarkCs.congr rfl,
      hmarkSs.congr rfl, hmem.congr rfl, rfl, rfl, ⟨rfl, rfl, rfl, rfl⟩, rfl, rfl, rfl, rfl, rfl, rfl, rfl, rfl,
      rfl, rfl, rfl⟩
    rintro r (rfl | rfl)
    · exact s.outerSeg_effect s.ds p
    · exact s.outerSeg_effect s.es p

/-! ### CALL through a call gate to an inner level -/

/-- The parameter words in the order of their pushes: the last one of the caller's first (47 R653 step 15). -/
theorem State.params_eq (s : State) (k : Nat) :
    s.params k = (List.range k).reverse.map fun i => s.stackWord (BitVec.ofNat 16 (2 * i)) := by
  induction k with
  | zero => rfl
  | succ k ih => rw [State.params, ih, List.range_succ, List.reverse_append]; rfl

/-- The access byte of a gate or TSS is not that of a code segment (21 R165). -/
theorem arCode_of_arType {ar : Byte} {n : BitVec 5} (h : arType ar = n) (hn : n.getLsbD 4 = false) :
    arCode ar = false := by
  have hbit : (arType ar).getLsbD 4 = ar.getLsbD 4 := BitVec.getLsbD_extractLsb' ..
  rw [arCode, ← hbit, h, hn, Bool.false_and]

/-- The caller's return address and stack, between them the parameters: the new stack's words from the top down. -/
def State.callFrame (s : State) (k : Nat) : List Word :=
  [s.ss.sel, s.reg .sp] ++ s.params k ++ [s.cs.sel, s.nextIp]

theorem State.callFrame_length (s : State) (k : Nat) : (s.callFrame k).length = k + 4 := by
  simp [State.callFrame, State.params_eq]

/-- CS:IP and SS:SP of the inner level, before anything is pushed (47 R653 steps 11 to 13). -/
def State.innerEntry (s : State) (g : Desc) (nss nsp : Word) : State :=
  ((s.switchStack nss nsp (s.desc nss)).loadCs g.gateSel (s.desc g.gateSel) (s.desc g.gateSel).dpl).setIp g.gateOffset

section
variable {s : State} {sel nss nsp : Word}

theorem State.callFar_inner (hp : s.msw.pe = true) (off : Word) (hsel : s.checkFarSel sel = .ok ())
    (htype : arType (s.desc sel).access = 4) (hgate : s.checkCallGate sel = .ok ())
    (hpresent : (s.desc (s.desc sel).gateSel).present = true)
    (hconf : arConforming (s.desc (s.desc sel).gateSel).access = false)
    (hinner : (s.desc (s.desc sel).gateSel).dpl.toNat < s.cpl.toNat)
    (hstack : s.innerStack (s.desc (s.desc sel).gateSel).dpl false = .ok (nsp, nss))
    (htests : s.checkCallInner sel nss nsp = .ok ()) : s.callFar sel off = .ok (s.callInner sel nss nsp) := by
  have hcode : arCode (s.desc sel).access = false := arCode_of_arType htype rfl
  have hle := decide_eq_true hinner.le
  have hlt := decide_eq_true hinner
  have hcall : s.farCallGate sel = .ok (s.callInner sel nss nsp) := by
    simp only [State.farCallGate, hgate, hle, hpresent, hconf, hlt, hstack]
    change (do s.checkCallInner sel nss nsp; pure (s.callInner sel nss nsp) : Except Exn State) = _
    rw [htests]
    rfl
  simp only [State.callFar_protected hp, State.farCallProt, hsel, hcode, htype, hcall]
  rfl

end

/-- Settles O46: the words are pushed on the inner stack after both descriptors are marked. -/
theorem callGateToInnerLevel : Obligations.CallGateToInnerLevel := by
  intro s i sel off nsp nss h hp hi hsel htype hgate g cd hpresent hconf hinner hstack htests u parameters frame
  have hframe : s.callFrame g.gateCount = frame := by rw [State.callFrame, State.params_eq]
  have hcount : g.gateCount < 32 := Nat.mod_lt _ (by decide)
  have hlen : frame.length = g.gateCount + 4 := by rw [← hframe, State.callFrame_length]
  obtain ⟨hmarkSs, hmarkCs, hmem, hc⟩ := State.setAccessed_twice h nss g.gateSel
  have hentry : FramePushed u (s.innerEntry g nss nsp) [] [s.accessCell nss, s.accessCell g.gateSel] :=
    .nil (hmem.congr rfl) rfl
  have hpushed := hentry.pushes frame ⟨rfl, rfl⟩ rfl hc (by rw [List.nil_append, hlen]; omega)
  have hexec : exec i s = .next ((s.innerEntry g nss nsp).pushes frame) := by
    rw [hi.exec_eq, State.callFar_inner hp off hsel htype hgate hpresent hconf hinner hstack htests, ← hframe]
    rfl
  have hbelow : SameMemoryBut (s.innerEntry g nss nsp) ((s.innerEntry g nss nsp).pushes frame)
      (u.belowCells frame.length) := by
    obtain ⟨⟨-, hbelow, -⟩, -⟩ := State.pushes_frame (s := s.innerEntry g nss nsp) hc frame (by rw [hlen]; omega)
    rw [List.append_nil] at hbelow
    exact hbelow
  have hsp : ((s.innerEntry g nss nsp).pushes frame).reg .sp = nsp - BitVec.ofNat 16 (8 + 2 * g.gateCount) := by
    obtain ⟨-, -, hsp, -⟩ := hpushed
    have husp : u.reg .sp = nsp := State.setReg_reg_same s .sp nsp
    rw [hsp, husp, List.nil_append, hlen]
    congr 2
    omega
  have hregs : SameRegsBut s ((s.innerEntry g nss nsp).pushes frame) [.sp] := fun r hr => by
    obtain ⟨-, -, -, hregs⟩ := hpushed
    exact (hregs r hr).trans (State.setReg_reg_ne s (by simpa using hr) nsp)
  obtain ⟨q, m, ht⟩ : ∃ q m, (s.innerEntry g nss nsp).pushes frame =
      { s.innerEntry g nss nsp with regs := q, mem := m } :=
    ⟨_, _, State.pushes_eq ..⟩
  rw [ht] at hexec hpushed hbelow hsp hregs
  refine ⟨_, hexec, hpushed, ?_, (if_pos hp).trans (selRpl_selWithRpl _ _), rfl, ⟨rfl, rfl, rfl, rfl⟩, ⟨rfl, rfl⟩, rfl,
    ⟨rfl, rfl, rfl, rfl⟩, hsp, hregs, rfl, rfl, rfl, rfl, ⟨rfl, rfl, rfl, rfl⟩, rfl, rfl, rfl, rfl, rfl, rfl, rfl, rfl,
    rfl, rfl, rfl⟩
  rintro x (rfl | rfl) hx
  · exact (hmarkSs.congr rfl).keep hbelow hx
  · exact (hmarkCs.congr rfl).keep hbelow hx

end Sys2Proof.Machine
end

section
/-!
SUPPORT. The hidden state through exceptions and task switches: what instructions and events of the boundary have
latched is not touched by a delivery, whatever becomes of it, but for the run state.
-/

namespace Sys2Proof.Machine

/-! ### The results of operations that may fail -/

/-- Where the operation ends without an exception, `P` holds. -/
def EndsIn (P : State → Prop) (r : Except Exn State) : Prop := ∀ t, r = .ok t → P t

/-- `P` holds where the operation ends and where its exception is raised. -/
def Reaches (P : State → Prop) (r : Except Trap State) : Prop := (∀ t, r = .ok t → P t) ∧ ∀ x, r = .error x → P x.st

section
variable {P Q : State → Prop}

theorem EndsIn.ok {t : State} (h : P t) : EndsIn P (.ok t) := fun _ e => by cases e; exact h

theorem EndsIn.bind {α : Type} {a : Except Exn α} {f : α → Except Exn State} (h : ∀ x, EndsIn P (f x)) :
    EndsIn P (a >>= f) := by
  cases a with
  | ok x => exact h x
  | error e => exact fun _ he => by cases he

theorem Reaches.ok {t : State} (h : P t) : Reaches P (.ok t) :=
  ⟨fun _ e => (by cases e; exact h), fun _ e => (by cases e)⟩

theorem Reaches.error {x : Trap} (h : P x.st) : Reaches P (.error x) :=
  ⟨fun _ e => (by cases e), fun _ e => (by cases e; exact h)⟩

theorem Reaches.check {u : State} {α : Type} {a : Except Exn α} {f : α → Except Trap State} (hu : P u)
    (h : ∀ x, Reaches P (f x)) : Reaches P (onFail u a >>= f) := by
  cases a with
  | ok x => exact h x
  | error e => exact .error hu

theorem Reaches.onFail {u : State} {r : Except Exn State} (hu : P u) (h : EndsIn P r) : Reaches P (onFail u r) := by
  cases r with
  | ok t => exact .ok (h t rfl)
  | error e => exact .error hu

theorem Reaches.bind {r : Except Trap State} {f : State → Except Trap State} (h : Reaches P r)
    (hf : ∀ t, P t → Reaches P (f t)) : Reaches P (r >>= f) := by
  obtain ⟨hok, herror⟩ := h
  cases r with
  | ok t => exact hf t (hok t rfl)
  | error x => exact .error (herror x rfl)

theorem EndsIn.imp {r : Except Exn State} (h : EndsIn P r) (hPQ : ∀ t, P t → Q t) : EndsIn Q r :=
  fun t e => hPQ t (h t e)

theorem Reaches.imp {r : Except Trap State} (h : Reaches P r) (hPQ : ∀ t, P t → Q t) : Reaches Q r := by
  obtain ⟨hok, herror⟩ := h
  exact ⟨fun t e => hPQ t (hok t e), fun x e => hPQ x.st (herror x e)⟩

end

/-! ### The hidden state -/

theorem SameHidden.refl (s : State) : SameHidden s s := (SameSystem.refl s).hidden

theorem SameHidden.trans {s t u : State} (h : SameHidden s t) (k : SameHidden t u) : SameHidden s u := by
  obtain ⟨h1, h2, h3, h4, h5, h6, h7, h8, h9, ha, hb⟩ := h
  obtain ⟨k1, k2, k3, k4, k5, k6, k7, k8, k9, ka, kb⟩ := k
  exact ⟨k1.trans h1, k2.trans h2, k3.trans h3, k4.trans h4, k5.trans h5, k6.trans h6, k7.trans h7, k8.trans h8,
    k9.trans h9, ka.trans ha, kb.trans hb⟩

/-- The hidden state is the same but for the run state. -/
def SameLatches (s t : State) : Prop := SameHidden { s with run := t.run } t

theorem SameHidden.latches {s t : State} (h : SameHidden s t) : SameLatches s t := by
  obtain ⟨h1, h2, h3, h4, h5, -, h7⟩ := h
  exact ⟨h1, h2, h3, h4, h5, rfl, h7⟩

theorem SameLatches.trans {s t u : State} (h : SameLatches s t) (k : SameLatches t u) : SameLatches s u := by
  obtain ⟨h1, h2, h3, h4, h5, -, h7, h8, h9, ha, hb⟩ := h
  obtain ⟨k1, k2, k3, k4, k5, -, k7, k8, k9, ka, kb⟩ := k
  exact ⟨k1.trans h1, k2.trans h2, k3.trans h3, k4.trans h4, k5.trans h5, rfl, k7.trans h7, k8.trans h8, k9.trans h9,
    ka.trans ha, kb.trans hb⟩

theorem State.enterShutdown_latches (s : State) : SameLatches s s.enterShutdown :=
  ⟨rfl, rfl, rfl, rfl, rfl, rfl, rfl, rfl, rfl, rfl, rfl⟩

theorem State.resume_latches (s : State) : SameLatches s s.resume :=
  ⟨rfl, rfl, rfl, rfl, rfl, rfl, rfl, rfl, rfl, rfl, rfl⟩

theorem State.pushes_hidden (s : State) (l : List Word) : SameHidden s (s.pushes l) := (s.pushes_sameSystem l).hidden

theorem State.push_hidden (s : State) (w : Word) : SameHidden s (s.push w) := s.pushes_hidden [w]

theorem State.setReg_hidden (s : State) (r : Reg16) (v : Word) : SameHidden s (s.setReg r v) := SameHidden.refl s

theorem State.setIp_hidden (s : State) (x : Word) : SameHidden s (s.setIp x) := SameHidden.refl s

theorem State.setFlags_hidden (s : State) (f : Flags) : SameHidden s (s.setFlags f) := SameHidden.refl s

theorem State.pushErr_hidden (s : State) (err : Option Word) : SameHidden s (s.pushErr err) := by
  rw [State.pushErr_eq]
  exact s.pushes_hidden _

theorem State.setSeg_hidden (s : State) (r : SReg) (g : Seg) : SameHidden s (s.setSeg r g) := by
  cases r <;> exact ⟨rfl, rfl, rfl, rfl, rfl, rfl, rfl, rfl, rfl, rfl, rfl⟩

theorem State.setAccessByte_hidden (s : State) (sel : Word) (ar : Byte) : SameHidden s (s.setAccessByte sel ar) :=
  SameHidden.refl s

theorem State.loadSeg_hidden (s : State) (r : SReg) (sel : Word) (d : Desc) : SameHidden s (s.loadSeg r sel d) :=
  (s.setAccessByte_hidden sel _).trans (State.setSeg_hidden ..)

theorem State.loadCs_hidden (s : State) (sel : Word) (d : Desc) (p : BitVec 2) : SameHidden s (s.loadCs sel d p) :=
  (s.setAccessByte_hidden sel _).trans (State.setSeg_hidden ..)

/-! ### The task switch (47 R694) -/

theorem OnlyMemory.tssWrite {s t : State} (h : OnlyMemory s t) (o : Nat) (v : Word) : OnlyMemory s (t.tssWrite o v) :=
  h.writeWord ..

theorem OnlyMemory.setAccessByte {s t : State} (h : OnlyMemory s t) (sel : Word) (ar : Byte) :
    OnlyMemory s (t.setAccessByte sel ar) := h.writeByte ..

theorem OnlyMemory.saveTask {s t : State} (h : OnlyMemory s t) (ip : Word) (f : Flags) :
    OnlyMemory s (t.saveTask ip f) := by
  unfold State.saveTask
  repeat' apply OnlyMemory.tssWrite
  exact h

/-- What is stored in the old TSS and the descriptors, before TR and the registers are loaded (47 R694 steps 3 to 6). -/
def State.storeTask (s : State) (nsel : Word) (nd : Desc) (k : SwitchKind) (ip : Word) : State :=
  let t := (s.setAccessByte nsel (nd.access ||| 2)).saveTask ip
    (if k = .iret then { s.flags with nt := false } else s.flags)
  if k.nests then t.writeWord nd.base s.tr.sel else t.setAccessByte s.tr.sel ((t.desc s.tr.sel).access &&& 0xFD)

/-- The registers of the task whose TSS the segment `g` is (47 R694 steps 6 to 9). -/
def State.enterTss (s : State) (g : SysSeg) (k : SwitchKind) : State := ({ s with tr := g }).loadTask k

theorem State.commitSwitch_eq (s : State) (nsel : Word) (nd : Desc) (k : SwitchKind) (ip : Word) :
    s.commitSwitch nsel nd k ip = (s.storeTask nsel nd k ip).enterTss (nd.toSys nsel) k := rfl

theorem State.storeTask_onlyMemory (s : State) (nsel : Word) (nd : Desc) (k : SwitchKind) (ip : Word) :
    OnlyMemory s (s.storeTask nsel nd k ip) := by
  have hsave := ((OnlyMemory.refl s).setAccessByte nsel (nd.access ||| 2)).saveTask ip
    (if k = .iret then { s.flags with nt := false } else s.flags)
  unfold State.storeTask
  dsimp only
  split
  · exact hsave.writeWord ..
  · exact hsave.setAccessByte ..

theorem State.commitSwitch_hidden (s : State) (nsel : Word) (nd : Desc) (k : SwitchKind) (ip : Word) :
    SameHidden s (s.commitSwitch nsel nd k ip) := by
  obtain ⟨m, hm⟩ := s.storeTask_onlyMemory nsel nd k ip
  rw [State.commitSwitch_eq, hm]
  exact ⟨rfl, rfl, rfl, rfl, rfl, rfl, rfl, rfl, rfl, rfl, rfl⟩

theorem State.taskLdt_hidden (s : State) (ext : Bool) : EndsIn (SameHidden s) (s.taskLdt ext) := by
  unfold State.taskLdt
  dsimp only
  split
  · exact .ok (.refl s)
  · exact .bind fun _ => .bind fun _ => .bind fun _ => .bind fun _ =>
      .ok ⟨rfl, rfl, rfl, rfl, rfl, rfl, rfl, rfl, rfl, rfl, rfl⟩

theorem State.taskSs_hidden (s : State) (ext : Bool) : EndsIn (SameHidden s) (s.taskSs ext) :=
  .bind fun _ => .ok (s.loadSeg_hidden ..)

theorem State.taskCs_hidden (s : State) (ext : Bool) : EndsIn (SameHidden s) (s.taskCs ext) :=
  .bind fun _ => .bind fun _ => .bind fun _ => .bind fun _ => .bind fun _ => .ok (s.loadCs_hidden ..)

theorem State.taskData_hidden (s : State) (r : SReg) (ext : Bool) : EndsIn (SameHidden s) (s.taskData r ext) := by
  unfold State.taskData
  dsimp only
  split
  · exact .ok (.refl s)
  · exact .bind fun _ => .ok (s.loadSeg_hidden ..)

theorem State.switchTasks_hidden (s : State) (nsel : Word) (nd : Desc) (k : SwitchKind) (ip : Word) (ext : Bool) :
    Reaches (SameHidden s) (s.switchTasks nsel nd k ip ext) := by
  have next {u : State} {r : Except Exn State} (hu : SameHidden s u) (h : EndsIn (SameHidden u) r) :
      Reaches (SameHidden s) (onFail u r) := .onFail hu (h.imp fun _ => hu.trans)
  unfold State.switchTasks
  refine .check (.refl s) fun _ => .check (.refl s) fun _ => ?_
  refine (next (s.commitSwitch_hidden ..) (State.taskLdt_hidden _ _)).bind fun s1 h1 => ?_
  refine (next h1 (State.taskSs_hidden _ _)).bind fun s2 h2 => ?_
  refine (next h2 (State.taskCs_hidden _ _)).bind fun s3 h3 => ?_
  exact (next h3 (State.taskData_hidden _ _ _)).bind fun s4 h4 => next h4 (State.taskData_hidden _ _ _)

/-! ### Taking an exception -/

theorem pushAllReal_hidden (l : List Word) (s : State) :
    (∀ t, pushAllReal l s = .ok t → SameHidden s t) ∧ ∀ t, pushAllReal l s = .error t → SameHidden s t := by
  induction l generalizing s with
  | nil => exact ⟨fun t e => by cases e; exact .refl s, fun t e => by cases e⟩
  | cons w l ih =>
    have hpush := s.push_hidden w
    obtain ⟨hok, herror⟩ := ih (s.push w)
    unfold pushAllReal
    split
    · exact ⟨fun t e => hpush.trans (hok t e), fun t e => hpush.trans (herror t e)⟩
    · exact ⟨fun t e => (by cases e), fun t e => by cases e; exact .refl s⟩

theorem State.enterReal_latches (s : State) (n : Byte) (ip : Word) : SameLatches s (s.enterReal n ip) := by
  obtain ⟨hok, herror⟩ := pushAllReal_hidden [s.flags.toWord, s.cs.sel, ip] s
  unfold State.enterReal
  split
  · exact (herror _ ‹_›).latches.trans (State.enterShutdown_latches _)
  · rename_i t ht
    exact (hok t ht).latches.trans ⟨rfl, rfl, rfl, rfl, rfl, rfl, rfl, rfl, rfl, rfl, rfl⟩

theorem State.deliverReal_latches (s : State) (n : Byte) (ip : Word) : SameLatches s (s.deliverReal n ip) := by
  unfold State.deliverReal
  split
  · exact s.enterReal_latches ..
  · split
    · exact s.enterShutdown_latches
    · split
      · exact s.enterReal_latches ..
      · exact s.enterShutdown_latches

theorem State.enterSame_hidden (s : State) (ev : Event) (g : Desc) (c : Word) :
    EndsIn (SameHidden s) (s.enterSame ev g c) := by
  unfold State.enterSame
  exact .bind fun _ => .bind fun _ => .ok <|
    (s.push_hidden _).trans <| (State.push_hidden ..).trans <| (State.push_hidden ..).trans <|
      (State.loadCs_hidden ..).trans <| (State.setIp_hidden ..).trans <| (State.pushErr_hidden ..).trans <|
        State.setFlags_hidden ..

theorem State.enterInner_hidden (s : State) (ev : Event) (g : Desc) (c : Word) :
    EndsIn (SameHidden s) (s.enterInner ev g c) := by
  unfold State.enterInner
  exact .bind fun _ => .bind fun _ => .bind fun _ => .bind fun _ => .ok <|
    (s.loadSeg_hidden ..).trans <| (State.setReg_hidden ..).trans <| (State.loadCs_hidden ..).trans <|
      (State.setIp_hidden ..).trans <| (State.push_hidden ..).trans <| (State.push_hidden ..).trans <|
        (State.push_hidden ..).trans <| (State.push_hidden ..).trans <| (State.push_hidden ..).trans <|
          (State.pushErr_hidden ..).trans <| State.setFlags_hidden ..

theorem State.enterGate_hidden (s : State) (ev : Event) (g : Desc) : EndsIn (SameHidden s) (s.enterGate ev g) := by
  unfold State.enterGate
  refine .bind fun _ => .bind fun _ => .bind fun _ => .bind fun _ => ?_
  split
  · exact s.enterInner_hidden _ _ _
  · exact .bind fun _ => s.enterSame_hidden _ _ _

theorem State.enterTask_hidden (s : State) (ev : Event) (g : Desc) : Reaches (SameHidden s) (s.enterTask ev g) := by
  unfold State.enterTask
  refine .check (.refl s) fun _ => (s.switchTasks_hidden ..).bind fun t h => .check h fun _ => ?_
  have herr := h.trans (t.pushErr_hidden ev.err)
  exact .check herr fun _ => .ok herr

theorem State.deliverProt_latches (s : State) (ev : Event) : Reaches (SameLatches s) (s.deliverProt ev) := by
  have hgate := (s.enterGate_hidden ev (s.idtGate ev.vec)).imp fun _ => SameHidden.latches
  have htask := (s.enterTask_hidden ev (s.idtGate ev.vec)).imp fun _ => SameHidden.latches
  have hstart := (SameHidden.refl s).latches
  have hend (t : State) (h : SameLatches s t) : Reaches (SameLatches s) (.ok t.resume) := .ok (h.trans t.resume_latches)
  unfold State.deliverProt
  refine .check hstart fun _ => ?_
  dsimp only
  split
  · exact htask.bind hend
  · exact (Reaches.onFail hstart hgate).bind hend

theorem State.doubleFault_latches (s : State) : SameLatches s s.doubleFault := by
  obtain ⟨hok, herror⟩ := s.deliverProt_latches { vec := 8, kind := .fault, retIp := s.ip, err := some 0 }
  unfold State.doubleFault
  split
  · exact hok _ ‹_›
  · exact (herror _ ‹_›).trans (State.enterShutdown_latches _)

theorem State.secondFault_latches (s : State) (e : Exn) : SameLatches s (s.secondFault e) := by
  cases e with
  | shutdown => exact s.enterShutdown_latches
  | trap v c =>
    obtain ⟨hok, herror⟩ := s.deliverProt_latches { vec := v, kind := .fault, retIp := s.ip, err := c }
    rw [State.secondFault]
    split
    · exact hok _ ‹_›
    · exact (herror _ ‹_›).trans (State.doubleFault_latches _)

theorem State.deliver_latches (s : State) (ev : Event) : SameLatches s (s.deliver ev) := by
  obtain ⟨hok, herror⟩ := s.deliverProt_latches ev
  unfold State.deliver
  split
  · exact s.deliverReal_latches ..
  · split
    · exact hok _ ‹_›
    · split
      · exact (herror _ ‹_›).trans (State.doubleFault_latches _)
      · exact (herror _ ‹_›).trans (State.secondFault_latches ..)

/-- An exception of the instruction in progress leaves alone what it has latched. -/
theorem State.raise_latches (s : State) (e : Exn) : SameLatches s (s.raise e) := by
  cases e with
  | shutdown => exact s.enterShutdown_latches
  | trap v c => exact s.deliver_latches _

end Sys2Proof.Machine
end

section
/-!
The step at a quiet boundary (60 R790, R796, R801; 30 R263, R290): one or two rounds of the decoding loop, the meaning,
the trap.
-/

namespace Sys2Proof.Machine

theorem State.trapsNow_iff (t : State) : t.trapsNow = true ↔
    t.tfAtStart = true ∧ t.intInhibit ≠ .ss ∧ t.waiting = .none ∧ t.run ≠ .shutdown := by
  simp [State.trapsNow, and_assoc]

theorem State.afterInstr_eq (t : State) : t.afterInstr =
    if t.tfAtStart = true ∧ t.intInhibit ≠ .ss ∧ t.waiting = .none ∧ t.run ≠ .shutdown
    then State.extInt { t with cur := Cur.empty } 1 else { t with cur := Cur.empty } :=
  if_congr (State.trapsNow_iff { t with cur := Cur.empty }) rfl rfl

section
variable {s t : State} (q : Quiet s)
include q

theorem Quiet.step_of_runTokens (h : runTokens tokenFuel s.begin = .next t) : step s = .next t.afterInstr := by
  rw [step, q.step_eq, State.instrCycle, h]

end

/-- What the fetch reads is not part of what a step latches. -/
theorem State.begin_fetch (s : State) (k o : Nat) : s.begin.fetch k o = s.fetch k o :=
  State.fetch_congr (s := s) (t := s.begin) rfl rfl rfl rfl rfl k o

/-- The instruction after `n` bytes of prefixes, on the state that has them latched. -/
theorem runTokens_exec {s : State} {i : Instr} {bs rest : List Byte} {k n : Nat} (hn : n ≤ 1) (hlen : s.cur.len = n)
    (hlock : s.cur.lock = false) (hfetch : s.fetch tokenBytes (s.ip.toNat + n) = bs) (hd : decode bs = .ok (i, rest))
    (hi : isPrefix i = false) :
    runTokens (k + 1) s = exec i (s.consumed (n + (bs.length - rest.length))) := by
  have hbytes : bs.length ≤ 6 := hfetch ▸ s.fetch_length tokenBytes (s.ip.toNat + n)
  subst hlen
  rw [runTokens_main hfetch hd hi]
  exact runMain_exec (by change s.cur.len + (bs.length - rest.length) ≤ 10; omega) hlock

/-- The state a prefix byte other than LOCK leaves, at the start of an instruction. -/
theorem exec_prefix {s : State} {p : Instr} {c : Cur}
    (hp : p = .segEs ∧ c = { Cur.empty with seg := some .es } ∨ p = .segCs ∧ c = { Cur.empty with seg := some .cs } ∨
      p = .segSs ∧ c = { Cur.empty with seg := some .ss } ∨ p = .segDs ∧ c = { Cur.empty with seg := some .ds } ∨
      p = .rep ∧ c = { Cur.empty with rep := some .repe } ∨ p = .repne ∧ c = { Cur.empty with rep := some .repne }) :
    isPrefix p = true ∧ c.lock = false ∧
      exec p (s.begin.consumed 1) = .next { s.begin with cur := { c with len := 1 } } := by
  rcases hp with ⟨rfl, rfl⟩ | ⟨rfl, rfl⟩ | ⟨rfl, rfl⟩ | ⟨rfl, rfl⟩ | ⟨rfl, rfl⟩ | ⟨rfl, rfl⟩ <;> exact ⟨rfl, rfl, rfl⟩

/-- The trap where nothing holds it off: TF and the run state decide (60 R801). -/
theorem State.afterInstr_of_none {t : State} (hinhibit : t.intInhibit = .none) (hwaiting : t.waiting = .none) :
    t.afterInstr = if t.tfAtStart = true ∧ t.run ≠ .shutdown
      then State.extInt { t with cur := Cur.empty } 1 else { t with cur := Cur.empty } := by
  rw [State.afterInstr_eq]
  refine if_congr ?_ rfl rfl
  simp [hinhibit, hwaiting]

/-- Settles O53: a round of the decoding loop for each token; at the end of the segment there is none. -/
theorem stepRunsTheDecodedInstruction : Obligations.StepRunsTheDecodedInstruction := by
  refine ⟨fun s i rest q hi => ?_, fun s i hlen => if_pos hlen, fun s q hend => ?_, fun s => ⟨?_, fun b hb => ?_⟩⟩
  · intro started ended
    have hended (t : State) : t.afterInstr = ended t := t.afterInstr_eq
    refine ⟨fun bs hfetch hd => ⟨rfl, fun t ht => ?_⟩, fun ps bs p tail c hps hdp hone hp hfetch hd t ht => ?_⟩
    · rw [← hended]
      refine q.step_of_runTokens ?_
      rw [← s.begin_fetch] at hfetch
      rw [tokenFuel, runTokens_exec (Nat.zero_le 1) rfl rfl hfetch hd hi, Nat.zero_add]
      exact ht
    · rw [← hended]
      refine q.step_of_runTokens ?_
      obtain ⟨hprefix, hlock, hexec⟩ := exec_prefix (s := s) hp
      rw [← s.begin_fetch] at hps hfetch
      have hlen : 0 + (ps.length - tail.length) = 1 := by omega
      rw [tokenFuel, runTokens_prefix hps hdp hprefix (u := { s.begin with cur := { c with len := 1 } })
        (by rw [← hexec, ← hlen]; rfl)]
      rw [runTokens_exec (s := { s.begin with cur := { c with len := 1 } }) le_rfl rfl hlock
        ((State.fetch_congr rfl rfl rfl rfl rfl _ _).trans hfetch) hd hi]
      exact ht
  · intro t
    obtain ⟨-, -, -, hinhibit, -, -, -, hwaiting, -⟩ := s.begin.raise_latches (.gp 0)
    have ht : t.afterInstr = _ := State.afterInstr_of_none hinhibit hwaiting
    rw [← ht]
    exact q.step_of_runTokens (runTokens_empty (State.fetch_pastEnd (s := s.begin) hend _ _))
  · obtain ⟨-, hend⟩ := s.advance_advanced
    exact ⟨s.advance, rfl, hend⟩
  · exact ⟨s.setIp (s.target8 b), attempt_of_ok (State.checkNear_ok.2 hb), rfl⟩

end Sys2Proof.Machine
end

section
/-!
The task switch by JMP and CALL (47 R644, R655, R690 to R694): the stores in the old TSS and the descriptors, the
registers of the new TSS, and its descriptors.
-/

namespace Sys2Proof.Machine

/-! ### Words of one TSS -/

section
variable (s : State) (b : Addr)

/-- The cells of a word at a displacement. -/
theorem State.wordCells_add (n : Nat) : s.wordCells (b + BitVec.ofNat 24 n) =
    [s.cell (b + BitVec.ofNat 24 n), s.cell (b + BitVec.ofNat 24 (n + 1))] := by
  have hnext : b + BitVec.ofNat 24 n + 1 = b + BitVec.ofNat 24 (n + 1) := by
    rw [BitVec.add_assoc, BitVec.ofNat_add]
    rfl
  rw [State.wordCells, hnext]

/-- Words at displacements two or more apart share no cell. -/
theorem State.wordCells_apart {m n : Nat} (hn : n + 1 < 2 ^ 20) (h : m + 2 ≤ n) :
    ∀ c ∈ s.wordCells (b + BitVec.ofNat 24 m), c ∉ s.wordCells (b + BitVec.ofNat 24 n) := by
  rw [s.wordCells_add, s.wordCells_add]
  intro c hc hin
  rcases List.mem_pair.1 hc with rfl | rfl <;> rcases List.mem_pair.1 hin with he | he <;>
    · have := s.cell_add_inj b (by omega) (by omega) he
      omega

end

/-- Words stored in the current TSS, one after the other. -/
def State.tssWrites : List (Nat × Word) → State → State
  | [], s => s
  | x :: l, s => State.tssWrites l (s.tssWrite x.1 x.2)

/-- The cells that such a row of stores reaches. -/
def State.tssCells (s : State) (l : List (Nat × Word)) : List Nat :=
  l.flatMap fun x => s.wordCells (s.tr.base + BitVec.ofNat 24 x.1)

/-- A row of stores at increasing displacements, made in a state with the same TR as `s`. -/
theorem State.tssWrites_effect {s : State} (l : List (Nat × Word)) : ∀ {t : State}, SameBus s t → t.tr = s.tr →
    Canonical t → (l.map Prod.fst).Pairwise (fun m n => m + 2 ≤ n ∧ n + 1 < 2 ^ 20) →
    SameMemoryBut t (t.tssWrites l) (s.tssCells l) ∧
      (∀ x ∈ l, HoldsWord s (t.tssWrites l) (s.tr.base + BitVec.ofNat 24 x.1) x.2) ∧ Canonical (t.tssWrites l) := by
  induction l with
  | nil => exact fun _ _ hc _ => ⟨fun _ _ => rfl, fun _ hx => absurd hx List.not_mem_nil, hc⟩
  | cons y l ih =>
    intro t hb htr hc hl
    rw [List.map_cons, List.pairwise_cons] at hl
    obtain ⟨hy, hl⟩ := hl
    have hwrite : t.tssWrite y.1 y.2 = t.writeWord (s.tr.base + BitVec.ofNat 24 y.1) y.2 := by rw [State.tssWrite, htr]
    have hb' : SameBus s (t.tssWrite y.1 y.2) := hb.trans ⟨rfl, rfl⟩
    have hc' : Canonical (t.tssWrite y.1 y.2) := State.writeWord_wf hc _ _
    obtain ⟨hmem, hholds, hend⟩ := ih hb' htr hc' hl
    have hfirst := hb.word_holds hc (s.tr.base + BitVec.ofNat 24 y.1) y.2
    have hframe := hb.word_frame (s.tr.base + BitVec.ofNat 24 y.1) y.2
    rw [← hwrite] at hfirst hframe
    refine ⟨hframe.trans hmem, fun x hx => ?_, hend⟩
    rcases List.mem_cons.1 hx with rfl | hx
    · refine hfirst.keep hmem fun c hcell hin => ?_
      obtain ⟨z, hz, hin⟩ := List.mem_flatMap.1 hin
      obtain ⟨hapart, hlt⟩ := hy z.1 (List.mem_map_of_mem hz)
      exact s.wordCells_apart _ hlt hapart c hcell hin
    · exact hholds x hx

/-! ### The outgoing task -/

/-- The words saved in the old TSS (47 R694 step 4). -/
def State.savedTask (s : State) : List (Nat × Word) :=
  [(14, s.nextIp), (16, s.flags.toWord), (18, s.reg .ax), (20, s.reg .cx), (22, s.reg .dx), (24, s.reg .bx),
    (26, s.reg .sp), (28, s.reg .bp), (30, s.reg .si), (32, s.reg .di), (34, s.es.sel), (36, s.cs.sel),
    (38, s.ss.sel), (40, s.ds.sel)]

/-- The cells of the back link of a CALL, or of the access byte whose busy bit a JMP clears (47 R694 steps 5, 6). -/
def State.linkCells (s : State) (sel : Word) (k : SwitchKind) : List Nat :=
  if k = .call then s.wordCells (s.desc sel).base else [s.accessCell s.tr.sel]

/-- What the stores of a switch to the TSS `sel` leave in memory. -/
structure TaskStored (s u : State) (sel : Word) (k : SwitchKind) : Prop where
  memory : SameMemoryBut s u (s.accessCell sel :: s.tssCells s.savedTask ++ s.linkCells sel k)
  saved : ∀ x ∈ s.savedTask, HoldsWordBut s u (s.tr.base + BitVec.ofNat 24 x.1) x.2 (s.linkCells sel k)
  busy : s.accessCell sel ∉ s.tssCells s.savedTask ++ s.linkCells sel k →
    HoldsByte s u (s.accessCell sel) ((s.desc sel).access ||| 2)
  link : k = .call → HoldsWord s u (s.desc sel).base s.tr.sel
  notBusy : k = .jmp → s.accessCell s.tr.sel ∉ s.accessCell sel :: s.tssCells s.savedTask →
    HoldsByte s u (s.accessCell s.tr.sel) ((s.desc s.tr.sel).access &&& 0xFD)

/-- The last store of a switch, made where the new TSS is marked busy and the old task is saved. -/
theorem TaskStored.of_link {s t u : State} {sel : Word} {k : SwitchKind}
    (hmem : SameMemoryBut s t (s.accessCell sel :: s.tssCells s.savedTask))
    (hsaved : ∀ x ∈ s.savedTask, HoldsWord s t (s.tr.base + BitVec.ofNat 24 x.1) x.2)
    (hbusy : s.accessCell sel ∉ s.tssCells s.savedTask → HoldsByte s t (s.accessCell sel) ((s.desc sel).access ||| 2))
    (hlink : SameMemoryBut t u (s.linkCells sel k))
    (hcall : k = .call → HoldsWord s u (s.desc sel).base s.tr.sel)
    (hjmp : k = .jmp → s.accessCell s.tr.sel ∉ s.accessCell sel :: s.tssCells s.savedTask →
      HoldsByte s u (s.accessCell s.tr.sel) ((s.desc s.tr.sel).access &&& 0xFD)) : TaskStored s u sel k where
  memory := hmem.trans hlink
  saved x hx := ((hsaved x hx).but []).keep hlink (List.nil_subset _) (List.Subset.refl _)
  busy hnot := by
    rw [List.mem_append, not_or] at hnot
    obtain ⟨htask, hnot⟩ := hnot
    exact (hbusy htask).keep hlink hnot
  link := hcall
  notBusy := hjmp

/-- The state with the new TSS busy and the old task saved (47 R694 steps 3, 4). -/
def State.taskSaved (s : State) (sel : Word) : State :=
  (s.setAccessByte sel ((s.desc sel).access ||| 2)).tssWrites s.savedTask

theorem State.storeTask_jmp (s : State) (sel : Word) : s.storeTask sel (s.desc sel) .jmp s.nextIp =
    (s.taskSaved sel).setAccessByte s.tr.sel (((s.taskSaved sel).desc s.tr.sel).access &&& 0xFD) := rfl

theorem State.storeTask_call (s : State) (sel : Word) : s.storeTask sel (s.desc sel) .call s.nextIp =
    (s.taskSaved sel).writeWord (s.desc sel).base s.tr.sel := rfl

theorem OnlyMemory.tssWrites {s t : State} (l : List (Nat × Word)) (h : OnlyMemory s t) :
    OnlyMemory s (t.tssWrites l) := by
  induction l generalizing t with
  | nil => exact h
  | cons x l ih => exact ih (h.tssWrite x.1 x.2)

theorem State.taskSaved_onlyMemory (s : State) (sel : Word) : OnlyMemory s (s.taskSaved sel) :=
  ((OnlyMemory.refl s).setAccessByte sel _).tssWrites s.savedTask

/-- An access byte read where only memory differs. -/
theorem OnlyMemory.access {s t : State} (h : OnlyMemory s t) {sel : Word} {l : List Nat} (hmem : SameMemoryBut s t l)
    (hsel : s.accessCell sel ∉ l) : (t.desc sel).access = (s.desc sel).access := by
  obtain ⟨m, rfl⟩ := h
  exact hmem _ hsel

theorem State.savedTask_offsets (s : State) :
    (s.savedTask.map Prod.fst).Pairwise (fun m n => m + 2 ≤ n ∧ n + 1 < 2 ^ 20) := by
  change [14, 16, 18, 20, 22, 24, 26, 28, 30, 32, 34, 36, 38, 40].Pairwise (fun m n => m + 2 ≤ n ∧ n + 1 < 2 ^ 20)
  decide

section
variable {s : State} (h : Canonical s) (sel : Word)
include h

/-- The mark of the new TSS may lie among the words of the old one, which are stored after it. -/
theorem State.taskSaved_effect :
    SameMemoryBut s (s.taskSaved sel) (s.accessCell sel :: s.tssCells s.savedTask) ∧
      (∀ x ∈ s.savedTask, HoldsWord s (s.taskSaved sel) (s.tr.base + BitVec.ofNat 24 x.1) x.2) ∧
      (s.accessCell sel ∉ s.tssCells s.savedTask →
        HoldsByte s (s.taskSaved sel) (s.accessCell sel) ((s.desc sel).access ||| 2)) ∧
      Canonical (s.taskSaved sel) := by
  have hb : SameBus s (s.setAccessByte sel ((s.desc sel).access ||| 2)) := ⟨rfl, rfl⟩
  have hmark : HoldsByte s (s.setAccessByte sel ((s.desc sel).access ||| 2)) (s.accessCell sel)
      ((s.desc sel).access ||| 2) := State.writeByte_holds h _ _
  have hframe : SameMemoryBut s (s.setAccessByte sel ((s.desc sel).access ||| 2)) [s.accessCell sel] :=
    s.writeByte_frame _ _
  obtain ⟨hmem, hsaved, hc⟩ := State.tssWrites_effect s.savedTask hb rfl (State.writeByte_wf h _ _) s.savedTask_offsets
  exact ⟨hframe.trans hmem, hsaved, fun hnot => hmark.keep hmem hnot, hc⟩

theorem State.storeTask_stored {k : SwitchKind} (hk : k = .jmp ∨ k = .call) :
    TaskStored s (s.storeTask sel (s.desc sel) k s.nextIp) sel k := by
  obtain ⟨hmem, hsaved, hbusy, hc⟩ := State.taskSaved_effect h sel
  have honly := s.taskSaved_onlyMemory sel
  have hb := honly.sameSystem.bus
  rcases hk with rfl | rfl
  · rw [State.storeTask_jmp]
    have haddr := honly.sameSystem.tables.descAddr s.tr.sel
    rw [State.setAccessByte, haddr]
    refine .of_link hmem hsaved hbusy (hb.byte_frame _ _) (fun he => by cases he) fun _ hnot => ?_
    rw [honly.access hmem hnot]
    exact hb.byte_holds hc _ _
  · rw [State.storeTask_call]
    exact .of_link hmem hsaved hbusy (hb.word_frame _ _) (fun _ => hb.word_holds hc _ _) fun he => by cases he

end

/-! ### The descriptors of the new task -/

/-- A segment register has been loaded from the descriptor its selector names, or left as it was. -/
structure SegLoaded (r : SReg) (u v : State) : Prop where
  rest : ∃ g m, v = { u.setSeg r g with mem := m }
  sel : (v.seg r).sel = (u.seg r).sel
  memory : SameMemoryBut u v [u.accessCell (u.seg r).sel]

theorem bind_eq_ok {α β ε : Type} {a : Except ε α} {f : α → Except ε β} {t : β} :
    (a >>= f) = .ok t ↔ ∃ x, a = .ok x ∧ f x = .ok t := by
  cases a with
  | ok x => exact ⟨fun h => ⟨x, rfl, h⟩, fun ⟨y, hy, h⟩ => by cases hy; exact h⟩
  | error e => exact ⟨fun h => (by cases h), fun ⟨y, hy, _⟩ => (by cases hy)⟩

theorem onFail_eq_ok {α : Type} {u : State} {a : Except Exn α} {x : α} : onFail u a = .ok x ↔ a = .ok x := by
  cases a with
  | ok y => simp [onFail]
  | error e => simp [onFail]

theorem State.loadSeg_loaded (u : State) (r : SReg) :
    SegLoaded r u (u.loadSeg r (u.seg r).sel (u.desc (u.seg r).sel)) where
  rest := ⟨(u.desc (u.seg r).sel).toSeg (u.seg r).sel, (u.setAccessed (u.seg r).sel (u.desc (u.seg r).sel)).mem,
    by cases r <;> rfl⟩
  sel := by cases r <;> rfl
  memory := by cases r <;> exact u.writeByte_frame _ _

theorem State.taskSs_ok {u v : State} {ext : Bool} (h : u.taskSs ext = .ok v) :
    SegLoaded .ss u v ∧ v.ss.valid = true ∧ selRpl u.ss.sel = selRpl u.cs.sel := by
  obtain ⟨⟨⟩, hcheck, hv⟩ := bind_eq_ok.1 h
  cases hv
  exact ⟨u.loadSeg_loaded .ss, rfl, State.selRpl_of_checkSs hcheck⟩

theorem State.taskCs_ok {u v : State} {ext : Bool} (h : u.taskCs ext = .ok v) :
    SegLoaded .cs u v ∧ v.cs.valid = true := by
  simp only [State.taskCs, bind_eq_ok] at h
  obtain ⟨-, -, -, -, -, -, -, -, -, -, hv⟩ := h
  cases hv
  rw [State.loadCs, selWithRpl_selRpl]
  exact ⟨u.loadSeg_loaded .cs, rfl⟩

theorem State.taskData_ok {u v : State} {r : SReg} {ext : Bool} (h : u.taskData r ext = .ok v) : SegLoaded r u v := by
  unfold State.taskData at h
  dsimp only at h
  split at h
  · cases h
    exact ⟨⟨u.seg r, u.mem, by cases r <;> rfl⟩, rfl, .refl u _⟩
  · obtain ⟨-, -, hv⟩ := bind_eq_ok.1 h
    cases hv
    exact u.loadSeg_loaded r

theorem State.taskLdt_ok {u v : State} {ext : Bool} (h : u.taskLdt ext = .ok v) :
    ∃ l, v = { u with ldtr := l } ∧ l.sel = u.ldtr.sel := by
  unfold State.taskLdt at h
  dsimp only at h
  split at h
  · cases h
    exact ⟨u.ldtr, rfl, rfl⟩
  · simp only [bind_eq_ok] at h
    obtain ⟨-, -, -, -, -, -, -, -, hv⟩ := h
    cases hv
    exact ⟨_, rfl, rfl⟩

/-- The descriptors of the new task are loaded: of its selectors none has changed, CS and SS are valid and at one level
(47 R694 steps 10 to 14). -/
structure TaskLoaded (c t : State) : Prop where
  regs : t.regs = c.regs
  ip : t.ip = c.ip
  pastEnd : t.pastEnd = c.pastEnd
  flags : t.flags = c.flags
  msw : t.msw = c.msw
  tr : t.tr = c.tr
  gdtr : t.gdtr = c.gdtr
  idtr : t.idtr = c.idtr
  cs : t.cs.sel = c.cs.sel
  ss : t.ss.sel = c.ss.sel
  ds : t.ds.sel = c.ds.sel
  es : t.es.sel = c.es.sel
  ldtr : t.ldtr.sel = c.ldtr.sel
  csValid : t.cs.valid = true
  ssValid : t.ss.valid = true
  level : selRpl t.ss.sel = selRpl t.cs.sel
  memory : SameMemoryBut c t ([t.ss.sel, t.cs.sel, t.ds.sel, t.es.sel].map t.accessCell)

theorem State.switchTasks_ok {s t : State} {nsel : Word} {nd : Desc} {k : SwitchKind} {ip : Word} {ext : Bool}
    (h : s.switchTasks nsel nd k ip ext = .ok t) : TaskLoaded (s.commitSwitch nsel nd k ip) t := by
  simp only [State.switchTasks, bind_eq_ok, onFail_eq_ok] at h
  obtain ⟨-, -, -, -, u0, hldt, u1, hss, u2, hcs, u3, hds, hes⟩ := h
  obtain ⟨l, rfl, hl⟩ := State.taskLdt_ok hldt
  obtain ⟨⟨⟨gss, m1, rfl⟩, hsel1, hmem1⟩, hssValid, hlevel⟩ := State.taskSs_ok hss
  obtain ⟨⟨⟨gcs, m2, rfl⟩, hsel2, hmem2⟩, hcsValid⟩ := State.taskCs_ok hcs
  obtain ⟨⟨gds, m3, rfl⟩, hsel3, hmem3⟩ := State.taskData_ok hds
  obtain ⟨⟨ges, m4, rfl⟩, hsel4, hmem4⟩ := State.taskData_ok hes
  rw [← hsel1] at hmem1
  rw [← hsel2] at hmem2
  rw [← hsel3] at hmem3
  rw [← hsel4] at hmem4
  exact ⟨rfl, rfl, rfl, rfl, rfl, rfl, rfl, rfl, hsel2, hsel1, hsel3, hsel4, hl, hcsValid, hssValid,
    (congrArg selRpl hsel1).trans (hlevel.trans (congrArg selRpl hsel2).symm),
    hmem1.trans (hmem2.trans (hmem3.trans hmem4))⟩

theorem exec_farTss {s t : State} {i : Instr} {sel off : Word} {k : SwitchKind} (hp : s.msw.pe = true)
    (hi : k = .jmp ∧ JumpsFar i s sel off ∨ k = .call ∧ CallsFar i s sel off) (hsel : s.checkFarSel sel = .ok ())
    (htype : arType (s.desc sel).access = 1) (ht : s.farTss sel k = .ok t) : exec i s = .next t := by
  have hcode : arCode (s.desc sel).access = false := arCode_of_arType htype rfl
  rcases hi with ⟨rfl, hi⟩ | ⟨rfl, hi⟩
  · have hjmp : s.farJmpProt sel off = .ok t := by
      simp only [State.farJmpProt, hsel, hcode, htype, ht]
      rfl
    rw [hi.exec_eq, State.jmpFar_protected hp, hjmp]
    rfl
  · have hcall : s.farCallProt sel off = .ok t := by
      simp only [State.farCallProt, hsel, hcode, htype, ht]
      rfl
    rw [hi.exec_eq, State.callFar_protected hp, hcall]
    rfl

/-- A switch to a TSS that succeeds ends with IP inside the new code segment (47 R644, R655). -/
theorem State.farTss_ok {s t : State} {sel : Word} {k : SwitchKind} (h : s.farTss sel k = .ok t) :
    s.switchTasks sel (s.desc sel) k s.nextIp false = .ok t ∧ t.ip.toNat ≤ t.cs.limit.toNat := by
  simp only [State.farTss, State.checkTaskIp, bind_eq_ok, onFail_eq_ok] at h
  obtain ⟨-, -, u, hu, ⟨⟩, hip, he⟩ := h
  cases he
  exact ⟨hu, by simpa using hip⟩

/-- A word of the new TSS that no store of the switch reaches is loaded as it was (47 R694 step 7). -/
theorem TaskStored.readWord {s u : State} {sel : Word} {k : SwitchKind} (h : TaskStored s u sel k)
    (hu : OnlyMemory s u) {a : Addr}
    (ha : ∀ c ∈ s.wordCells a, c ∉ s.accessCell sel :: s.tssCells s.savedTask ++ s.linkCells sel k) :
    u.readWord a = s.readWord a :=
  hu.sameSystem.bus.readWord h.memory ha

/-- NT after a switch by JMP or CALL does not depend on the new task's FLAGS (47 R692). -/
theorem SwitchKind.nt_eq {k : SwitchKind} (hk : k = .jmp ∨ k = .call) (b : Bool) : k.nt b = decide (k = .call) := by
  rcases hk with rfl | rfl <;> rfl

/-- Settles O47: the stores of the switch, then its loads from what they have left, then the marks of the
descriptors. -/
theorem taskSwitchByJumpAndCall : Obligations.TaskSwitchByJumpAndCall := by
  intro s t i sel off k h hp hi hsel htype hfar new oldAt newAt saved busy savedCells link marks loads
  have hk : k = .jmp ∨ k = .call := hi.imp And.left And.left
  obtain ⟨hswitch, hip⟩ := State.farTss_ok hfar
  obtain ⟨hends, -⟩ := s.switchTasks_hidden sel (s.desc sel) k s.nextIp false
  have hhidden := hends t hswitch
  have hloaded := State.switchTasks_ok hswitch
  have hstored := State.storeTask_stored h sel hk
  have honly := s.storeTask_onlyMemory sel (s.desc sel) k s.nextIp
  rw [State.commitSwitch_eq] at hloaded
  generalize s.storeTask sel (s.desc sel) k s.nextIp = u at hloaded hstored honly
  have hmarks : SameMemoryBut u t marks := hloaded.memory
  have load (o : Nat) (P : Word → Prop) (hP : P (u.readWord (newAt o))) : loads o P := fun hcells => by
    rw [← hstored.readWord honly hcells]
    exact hP
  obtain ⟨hregs, hipNew, hpastEnd, hflags, hmsw, htr, hgdtr, hidtr, hcs, hss, hds, hes, hldtr, hcsValid, hssValid,
    hlevel, -⟩ := hloaded
  obtain ⟨hmsw0, -, ⟨hgdtr0, hidtr0, -, -⟩, -⟩ := honly.sameSystem
  have hmswNew : t.msw = { s.msw with ts := true } := hmsw.trans (congrArg (fun w : Msw => { w with ts := true }) hmsw0)
  have hcpl : t.cpl = selRpl t.cs.sel := State.cpl_protected ((congrArg Msw.pe hmswNew).trans hp)
  have hnt : t.flags.nt = decide (k = .call) := (congrArg Flags.nt hflags).trans (SwitchKind.nt_eq hk _)
  have loadReg (o : Nat) (r : Reg16) (hr : (u.enterTss ((s.desc sel).toSys sel) k).reg r = u.readWord (newAt o)) :
      loads o fun v => t.reg r = v :=
    load o (fun v => t.reg r = v) ((congrArg (fun g => Regs.get g r) hregs).trans hr)
  have loadFlags : loads 16 fun v => t.flags = { Flags.ofWord v with nt := decide (k = .call) } :=
    load 16 (fun v => t.flags = { Flags.ofWord v with nt := decide (k = .call) })
      (by rw [hflags, ← SwitchKind.nt_eq hk (Flags.ofWord (u.readWord (newAt 16))).nt]; rfl)
  exact ⟨exec_farTss hp hi hsel htype hfar, hmswNew, htr, by rw [hnt, decide_eq_true_iff], hcpl,
    hlevel.trans hcpl.symm, hcsValid, hssValid, hip, hpastEnd, hgdtr.trans hgdtr0, hidtr.trans hidtr0, hhidden,
    hstored.memory.trans hmarks,
    fun x hx => (hstored.saved x hx).keep hmarks (List.subset_append_left ..) (List.subset_append_right ..),
    fun hnot => (hstored.busy fun hin => hnot (List.mem_append_left _ hin)).keep hmarks fun hin =>
      hnot (List.mem_append_right _ hin),
    fun hc => ((hstored.link hc).but []).keep hmarks (List.nil_subset _) (List.Subset.refl _),
    fun hj hnot => (hstored.notBusy hj fun hin => hnot (List.mem_append_left _ hin)).keep hmarks fun hin =>
      hnot (List.mem_append_right _ hin),
    load 14 (t.ip = ·) hipNew, loadFlags, loadReg 18 .ax rfl, loadReg 20 .cx rfl, loadReg 22 .dx rfl,
    loadReg 24 .bx rfl, loadReg 26 .sp rfl, loadReg 28 .bp rfl, loadReg 30 .si rfl, loadReg 32 .di rfl,
    load 34 (t.es.sel = ·) hes, load 36 (t.cs.sel = ·) hcs, load 38 (t.ss.sel = ·) hss, load 40 (t.ds.sel = ·) hds,
    load 42 (t.ldtr.sel = ·) hldtr⟩

end Sys2Proof.Machine
end
